-- ==== Sys2Proof/Word.lean ====
section
/-! DEFINITION. The few word types of the ZB256 and the fixed lengths of its time scale.

The manual gives ranges, not storage widths (0.5.2): quantities are `Nat` or `Int`. Bit vectors hold only what the
manual treats as bits: frame bytes, the CRC and the covered-slot mask. -/

namespace Sys2Proof

/-- A byte of a frame (0.5.2: a byte is 8 bits). -/
abbrev Byte := BitVec 8

/-- A slot is always 900 seconds long (0.5.3). -/
abbrev slotSeconds : Nat := 900

/-- A local day (0.5.3, R41). -/
abbrev daySeconds : Nat := 86400

end Sys2Proof
end

