-- ==== Sys2Proof/Config.lean ====
section
/-! DEFINITION. The fixed limits of the part, and the one thing its manual leaves free. -/

namespace Sys2Proof.Config

/-- Zones are numbered 1 to 255 (0.5.5). -/
abbrev zoneCount : Nat := 255

/-- Groups are numbered 1 to 32 (R147). -/
abbrev groupCount : Nat := 32

/-- The directory holds at most 2,048 meter records (R1). -/
abbrev channelCount : Nat := 2048

/-- No attachment list exceeds 48 entries (R3). -/
abbrev attachLimit : Nat := 48

/-- The intake buffer holds at most 4 complete frames (R174). -/
abbrev intakeLimit : Nat := 4

/-- The notice queue never holds more than 96 notices (R177). -/
abbrev noticeLimit : Nat := 96

/-- A history ring holds at most 16 night records (R156). -/
abbrev ringLimit : Nat := 16

/-- A payload is at most 1,024 bytes (R172). -/
abbrev payloadLimit : Nat := 1024

/-- The start byte of every frame (R172). -/
abbrev startByte : Byte := 0xA5

/-- The clamp of the minimum night flow, in dL/h (R100), and the top of every baseline (R108). -/
abbrev flowLimit : Nat := 20000000

/-- FREE VALUE (log 6). R16 has one clock mark raise METER_STALE for every meter it makes STALE and does not say in
which order. `staleRank k ch` is the rank of channel `ch` on the mark whose free counter is `k`; nothing is known of it. -/
opaque staleRank : Nat → Nat → Nat

end Sys2Proof.Config
end

