-- ==== Sys2Proof/Syntax.lean ====
section
/-! DEFINITION. The commands of the ZB256: one constructor for each row of spec/opcode_table.json.

A request command carries the tag and the payload of its frame; its kind byte is the one section 12.5 gives the message.
An event command carries what comes with the event. -/

namespace Sys2Proof

/-- A complete frame, less its start byte, length and CRC (R172). -/
structure Frame where
  /-- the kind byte: which message the frame carries (section 12.5) -/
  kind : Byte
  /-- any value; the reply echoes it (R172, R175) -/
  tag : Byte
  /-- 0 to 1,024 bytes (R172) -/
  payload : List Byte
  deriving DecidableEq, Repr

/-- The commands: what the host can ask (35 messages and a kind that names none), and the events of the link, the pins
and the Close Engine. -/
inductive Instr where
  /-- ADD_METER, kind 0x01 (R8). -/
  | addMeter (tag : Byte) (payload : List Byte)
  /-- REMOVE_METER, kind 0x02 (R11). -/
  | removeMeter (tag : Byte) (payload : List Byte)
  /-- REPLACE_METER, kind 0x03 (R12, R13). -/
  | replaceMeter (tag : Byte) (payload : List Byte)
  /-- ATTACH_METER, kind 0x04 (R9, R10). -/
  | attachMeter (tag : Byte) (payload : List Byte)
  /-- METER_READ, kind 0x05 (R15). -/
  | meterRead (tag : Byte) (payload : List Byte)
  /-- READING, kind 0x10 (R19). -/
  | reading (tag : Byte) (payload : List Byte)
  /-- READING_BATCH, kind 0x11 (R20). `closeEvents` is the schedule of the Close Engine while the batch is taken: its
  entry `i` is how many engine events fall between record `i + 1` and record `i + 2` (log 7). -/
  | readingBatch (tag : Byte) (payload : List Byte) (closeEvents : List Nat)
  /-- CLOCK_MARK, kind 0x18 (R39). -/
  | clockMark (tag : Byte) (payload : List Byte)
  /-- PART_SET, kind 0x19 (R181). -/
  | partSet (tag : Byte) (payload : List Byte)
  /-- PART_STATUS, kind 0x51 (R182). -/
  | partStatus (tag : Byte) (payload : List Byte)
  /-- ZONE_SET, kind 0x20 (R43, R44). -/
  | zoneSet (tag : Byte) (payload : List Byte)
  /-- FORCE_CLOSE, kind 0x25 (R52). -/
  | forceClose (tag : Byte) (payload : List Byte)
  /-- ZONE_START, kind 0x21 (R110, R111). -/
  | zoneStart (tag : Byte) (payload : List Byte)
  /-- ZONE_STOP, kind 0x22 (R112). -/
  | zoneStop (tag : Byte) (payload : List Byte)
  /-- ZONE_SURVEY, kind 0x23 (R113). -/
  | zoneSurvey (tag : Byte) (payload : List Byte)
  /-- EXCLUDE_NIGHT, kind 0x24 (R114). -/
  | excludeNight (tag : Byte) (payload : List Byte)
  /-- ACCEPT_LEVEL, kind 0x26 (R115). -/
  | acceptLevel (tag : Byte) (payload : List Byte)
  /-- ACK_ZONE, kind 0x27 (R116, R134). -/
  | ackZone (tag : Byte) (payload : List Byte)
  /-- RESET_ZONE, kind 0x28 (R117). -/
  | resetZone (tag : Byte) (payload : List Byte)
  /-- ZONE_READ, kind 0x29 (R142). -/
  | zoneRead (tag : Byte) (payload : List Byte)
  /-- ZONE_PROFILE, kind 0x2A (R141). -/
  | zoneProfile (tag : Byte) (payload : List Byte)
  /-- GROUP_SET, kind 0x30 (R151, R152). -/
  | groupSet (tag : Byte) (payload : List Byte)
  /-- GROUP_READ, kind 0x31 (R153). -/
  | groupRead (tag : Byte) (payload : List Byte)
  /-- HISTORY_READ, kind 0x38 (R160). -/
  | historyRead (tag : Byte) (payload : List Byte)
  /-- UNFREEZE, kind 0x39 (R159). -/
  | unfreeze (tag : Byte) (payload : List Byte)
  /-- REPORT_HOLD, kind 0x40 (R143). -/
  | reportHold (tag : Byte) (payload : List Byte)
  /-- REPORT_RELEASE, kind 0x41 (R144). -/
  | reportRelease (tag : Byte) (payload : List Byte)
  /-- CAPTURE_READ, kind 0x42 (R137). -/
  | captureRead (tag : Byte) (payload : List Byte)
  /-- CLEAR_CAPTURE, kind 0x43 (R138). -/
  | clearCapture (tag : Byte) (payload : List Byte)
  /-- TEST_START, kind 0x48 (R163). -/
  | testStart (tag : Byte) (payload : List Byte)
  /-- TEST_CANCEL, kind 0x49 (R169). -/
  | testCancel (tag : Byte) (payload : List Byte)
  /-- TEST_READ, kind 0x4A (R170). -/
  | testRead (tag : Byte) (payload : List Byte)
  /-- TEST_CLEAR, kind 0x4B (R170). -/
  | testClear (tag : Byte) (payload : List Byte)
  /-- NOTICE_FETCH, kind 0x50 (R179). -/
  | noticeFetch (tag : Byte) (payload : List Byte)
  /-- RESTART, kind 0x52 (R183). -/
  | restart (tag : Byte) (payload : List Byte)
  /-- A request whose kind names no message (R176). -/
  | unknownKind (kind tag : Byte) (payload : List Byte)
  /-- A RESTART that was taken takes effect: its reply's last byte has been sent (R183). -/
  | restartTakesEffect
  /-- Bytes arrive on RXD with no over-long gap between them (R173). -/
  | frameReceived (bytes : List Byte)
  /-- More than 20 ms pass between two bytes (R173). -/
  | interByteGap
  /-- The reset pin is asserted; power-on is this too (R184). -/
  | resetPinAssert
  /-- The reset pin is released; `rateHigh` is the level of the RATE strap then (R171, R184). -/
  | resetPinRelease (rateHigh : Bool)
  /-- The part becomes ready to receive frames (R184). -/
  | startupReady
  /-- The engine takes a zone entry from the head of the close queue (R79). -/
  | closeStart
  /-- The engine takes the test entry from the head of the close queue (R79, R164). -/
  | testRunStart
  /-- The engine completes the zone close in service (R81). -/
  | closeCompletion
  /-- The engine completes the test run in service (R88, R164). -/
  | testRunCompletion
  deriving DecidableEq, Repr

/-- The kinds of section 12.5, each the kind byte of one message. -/
def catalogue : List Nat :=
  [0x01, 0x02, 0x03, 0x04, 0x05, 0x10, 0x11, 0x18, 0x19,
   0x20, 0x21, 0x22, 0x23, 0x24, 0x25, 0x26, 0x27, 0x28, 0x29, 0x2A,
   0x30, 0x31, 0x38, 0x39, 0x40, 0x41, 0x42, 0x43,
   0x48, 0x49, 0x4A, 0x4B, 0x50, 0x51, 0x52]

/-- The frame of a request command, and none for an event: the one place that gives each message its kind byte. -/
def Instr.frame? : Instr → Option Frame
  | .addMeter t p => some ⟨0x01, t, p⟩
  | .removeMeter t p => some ⟨0x02, t, p⟩
  | .replaceMeter t p => some ⟨0x03, t, p⟩
  | .attachMeter t p => some ⟨0x04, t, p⟩
  | .meterRead t p => some ⟨0x05, t, p⟩
  | .reading t p => some ⟨0x10, t, p⟩
  | .readingBatch t p _ => some ⟨0x11, t, p⟩
  | .clockMark t p => some ⟨0x18, t, p⟩
  | .partSet t p => some ⟨0x19, t, p⟩
  | .partStatus t p => some ⟨0x51, t, p⟩
  | .zoneSet t p => some ⟨0x20, t, p⟩
  | .forceClose t p => some ⟨0x25, t, p⟩
  | .zoneStart t p => some ⟨0x21, t, p⟩
  | .zoneStop t p => some ⟨0x22, t, p⟩
  | .zoneSurvey t p => some ⟨0x23, t, p⟩
  | .excludeNight t p => some ⟨0x24, t, p⟩
  | .acceptLevel t p => some ⟨0x26, t, p⟩
  | .ackZone t p => some ⟨0x27, t, p⟩
  | .resetZone t p => some ⟨0x28, t, p⟩
  | .zoneRead t p => some ⟨0x29, t, p⟩
  | .zoneProfile t p => some ⟨0x2A, t, p⟩
  | .groupSet t p => some ⟨0x30, t, p⟩
  | .groupRead t p => some ⟨0x31, t, p⟩
  | .historyRead t p => some ⟨0x38, t, p⟩
  | .unfreeze t p => some ⟨0x39, t, p⟩
  | .reportHold t p => some ⟨0x40, t, p⟩
  | .reportRelease t p => some ⟨0x41, t, p⟩
  | .captureRead t p => some ⟨0x42, t, p⟩
  | .clearCapture t p => some ⟨0x43, t, p⟩
  | .testStart t p => some ⟨0x48, t, p⟩
  | .testCancel t p => some ⟨0x49, t, p⟩
  | .testRead t p => some ⟨0x4A, t, p⟩
  | .testClear t p => some ⟨0x4B, t, p⟩
  | .noticeFetch t p => some ⟨0x50, t, p⟩
  | .restart t p => some ⟨0x52, t, p⟩
  | .unknownKind k t p => some ⟨k, t, p⟩
  | .restartTakesEffect => none
  | .frameReceived _ => none
  | .interByteGap => none
  | .resetPinAssert => none
  | .resetPinRelease _ => none
  | .startupReady => none
  | .closeStart => none
  | .testRunStart => none
  | .closeCompletion => none
  | .testRunCompletion => none

end Sys2Proof
end

