-- ==== Sys2Proof/Decode.lean ====
section
/-! DEFINITION. The command a word of the opcode table spells: spec/opcode_table.json gives no row any bits, so no word
spells one (log 20). The bytes of the part's requests are parsed in Machine/Operands.lean. -/

namespace Sys2Proof

/-- No row of the table has bits: there is no word to read a command from. -/
def decodeTableWord (_nbits _w : Nat) : Option Instr := none

end Sys2Proof
end

