-- ==== Sys2Proof/Machine/State.lean ====
section
/-! DEFINITION. Everything the ZB256 holds, as plain data, and what it holds after a pin reset.

The records follow the tables of the manual field by field. Where the manual calls a field optional it is an `Option`.
INVENTORY.md lists every field with its range, its rule and its reset value. -/

namespace Sys2Proof.Machine

/-- What would stop the part. The manual names no event that does: a bad request is answered with a reply code (R176),
a bad frame is discarded silently (R173). So there is no fault. -/
inductive Fault where
  deriving DecidableEq, Repr

/-- Why the model would give a command no meaning. -/
inductive Refusal where
  /-- Raised by `exec` for a command that has no meaning in the model yet; safe (nothing is claimed of it). -/
  | notModelled (mnemonic : String)
  deriving DecidableEq, Repr

/-! ### Meters (Chapter 1) and their cover records (Chapter 4) -/

/-- R2: a REGISTER reports a cumulative index, a PULSE meter the units since its previous report. -/
inductive MeterKind where
  | register
  | pulse
  deriving DecidableEq, Repr

/-- R2: a TWO_WAY meter reports a forward and a reverse index. -/
inductive Flow where
  | oneWay
  | twoWay
  deriving DecidableEq, Repr

/-- R5: the states of a meter. -/
inductive MeterState where
  | unbased
  | live
  | stale
  deriving DecidableEq, Repr

/-- R3: FROM is the zone a meter's forward flow leaves, TO the zone it enters. -/
inductive Side where
  | fromSide
  | toSide
  deriving DecidableEq, Repr

/-- R7, R27: the faults of meters. -/
inductive MeterFault where
  | overrange
  | regression
  | lostReports
  | longGap
  deriving DecidableEq, Repr

/-- R130: the five causes, in the order the manual names them. -/
inductive Cause where
  | coverage
  | negative
  | meter
  | dark
  | saturated
  deriving DecidableEq, Repr

/-- R136: what the capture record can hold, a meter's fault or a zone's cause. -/
inductive FaultKind where
  | meterFault (f : MeterFault)
  | zoneCause (c : Cause)
  deriving DecidableEq, Repr

/-- R58: a side cover record. -/
structure Cover where
  /-- start of the open run; absent when no run is open -/
  runStart : Option Nat
  /-- end of the run's latest interval; meaningful while a run is open -/
  runEnd : Nat
  /-- flag `j` set when slot `j` of the side zone's current night is covered -/
  mask : BitVec 16
  /-- a faulted gap has overlapped the current night's window -/
  faulted : Bool
  deriving DecidableEq, Repr

/-- R58: an empty cover record. -/
def Cover.empty : Cover := ⟨none, 0, 0, false⟩

/-- R6: the reading from which a meter's next interval starts. -/
structure Base where
  time : Nat
  /-- a REGISTER meter's forward index -/
  forward : Option Nat
  /-- a TWO_WAY meter's reverse index -/
  reverse : Option Nat
  /-- a PULSE meter's sequence, 0 to 255 -/
  sequence : Option Nat
  deriving DecidableEq, Repr

/-- The meter record of Chapter 1. Its channel is the key it is held under. -/
structure Meter where
  serial : Nat
  kind : MeterKind
  flow : Flow
  unit : Nat
  /-- absent for a PULSE meter (R2) -/
  digits : Option Nat
  qmax : Nat
  fromZone : Nat
  toZone : Nat
  state : MeterState
  base : Option Base
  /-- none, or the fault with the time of the reading that raised it (R7) -/
  lastFault : Option (MeterFault × Nat)
  fromCover : Option Cover
  toCover : Option Cover
  deriving DecidableEq, Repr

/-- R3: an entry of a zone's attachment list. -/
structure Attachment where
  channel : Nat
  side : Side
  deriving DecidableEq, Repr

/-! ### Zones: settings (R42) -/

/-- R130: a set of the five causes. -/
structure CauseSet where
  coverage : Bool
  negative : Bool
  meter : Bool
  dark : Bool
  saturated : Bool
  deriving DecidableEq, Repr

/-- No cause. -/
def CauseSet.none : CauseSet := ⟨false, false, false, false, false⟩

/-- All five causes. -/
def CauseSet.all : CauseSet := ⟨true, true, true, true, true⟩

/-- Setting 19, notify leak direction. -/
inductive LeakNotify where
  | off
  | rising
  | falling
  | both
  deriving DecidableEq, Repr

/-- Settings 1 to 5: the geometry of the zone's nights (R42). -/
structure Geometry where
  /-- 1, window start slot s -/
  startSlot : Nat
  /-- 2, window length n -/
  length : Nat
  /-- 3, hold-open h -/
  holdOpen : Nat
  /-- 4, smoothing span M -/
  span : Nat
  /-- 5, miss limit -/
  missLimit : Nat
  deriving DecidableEq, Repr

/-- Settings 6 to 20, the ones the start of a close captures (R80). -/
structure Params where
  /-- 6, allowance A, dL/h -/
  allowance : Nat
  /-- 7, negative tolerance, dL/h -/
  negTolerance : Nat
  /-- 8, learning nights L -/
  learnNights : Nat
  /-- 9, weight shift k -/
  weightShift : Nat
  /-- 10, absolute threshold Tabs, dL/h -/
  absThreshold : Nat
  /-- 11, relative eighths r -/
  relEighths : Nat
  /-- 12, confirm window W -/
  confirmWindow : Nat
  /-- 13, clear run C -/
  clearRun : Nat
  /-- 14, dark limit D -/
  darkLimit : Nat
  /-- 15, route mask -/
  routeMask : CauseSet
  /-- 16, publish hold -/
  publishHold : Bool
  /-- 17, history freeze on leak -/
  freezeOnLeak : Bool
  /-- 18, notify night closed -/
  notifyClosed : Bool
  /-- 19, notify leak direction -/
  notifyLeak : LeakNotify
  /-- 20, notify suspect -/
  notifySuspect : Bool
  deriving DecidableEq, Repr

/-- R44: the pending copies of the geometry settings. -/
structure Staged where
  startSlot : Option Nat
  length : Option Nat
  holdOpen : Option Nat
  span : Option Nat
  missLimit : Option Nat
  deriving DecidableEq, Repr

/-- R42: the defaults of settings 1 to 5. -/
def Geometry.default : Geometry := ⟨8, 8, 24, 4, 2⟩

/-- R42: the defaults of settings 6 to 20. -/
def Params.default : Params where
  allowance := 0
  negTolerance := 100
  learnNights := 7
  weightShift := 3
  absThreshold := 200
  relEighths := 1
  confirmWindow := 5
  clearRun := 3
  darkLimit := 3
  routeMask := CauseSet.all
  publishHold := false
  freezeOnLeak := true
  notifyClosed := false
  notifyLeak := .both
  notifySuspect := false

/-- No pending copy. -/
def Staged.none : Staged := ⟨Option.none, Option.none, Option.none, Option.none, Option.none⟩

/-! ### Zones: nights (R45), judgement (R108), publication (R139) and history (R156) -/

/-- R45: the life of a night. -/
inductive NightState where
  | pending
  | waiting
  | queued
  | closing
  deriving DecidableEq, Repr

/-- R45: why a night was queued. -/
inductive CloseCause where
  | complete
  | deadline
  | forced
  deriving DecidableEq, Repr

/-- R45: a zone's current night. The window bounds and the deadline are held exactly (R41). -/
structure Night where
  label : Int
  ws : Nat
  we : Nat
  deadline : Nat
  state : NightState
  /-- absent before QUEUED -/
  cause : Option CloseCause
  excluded : Bool
  survey : Bool
  /-- captured window length n -/
  length : Nat
  /-- captured smoothing span M -/
  span : Nat
  /-- captured miss limit -/
  missLimit : Nat
  /-- captured hold-open h -/
  holdOpen : Nat
  /-- n signed mL values, slot 0 first (R57) -/
  slots : List Int
  deriving DecidableEq, Repr

/-- R46, R63: a window [ws, we). -/
structure Window where
  ws : Nat
  we : Nat
  deriving DecidableEq, Repr

/-- R107: the monitor states. -/
inductive MonitorState where
  | standby
  | learning
  | watch
  | suspect
  | leak
  | survey
  deriving DecidableEq, Repr

/-- R123: the flag of a judged night. -/
inductive HitFlag where
  | nonHit
  | hit
  deriving DecidableEq, Repr

/-- R125: the hit of a closed night. -/
inductive HitResult where
  | notJudged
  | judged (flag : HitFlag)
  deriving DecidableEq, Repr

/-- R108: the judgement state record of a zone. -/
structure Judgement where
  /-- dL/h, 0 to 20,000,000 -/
  baseline : Option Nat
  learningCount : Nat
  /-- oldest first -/
  hitList : List HitFlag
  nonHitRun : Nat
  darkCount : Nat
  leakHeld : Bool
  /-- last valid minimum night flow, dL/h -/
  lastMnf : Option Int
  deriving DecidableEq, Repr

/-- R129: the judgement state after every reset and after RESET_ZONE. -/
def Judgement.reset : Judgement := ⟨none, 0, [], 0, 0, false, none⟩

/-- R139: a published record. -/
structure Published where
  label : Int
  cause : Option CloseCause
  valid : Bool
  excluded : Bool
  survey : Bool
  /-- the HELD flag (R140) -/
  held : Bool
  saturated : Bool
  mnf : Option Int
  estimate : Option Nat
  baseline : Option Nat
  excess : Option Int
  hit : HitResult
  covered : Nat
  missing : Nat
  live : CauseSet
  stateAfter : MonitorState
  deriving DecidableEq, Repr

/-- R104: one slot of a profile: its volume where it is covered, and its cover count. -/
structure ProfileSlot where
  /-- mL; absent for a missing slot -/
  volume : Option Int
  count : Nat
  deriving DecidableEq, Repr

/-- R104, R141: a slot profile; the window length is the number of its slots. -/
structure Profile where
  label : Int
  attachCount : Nat
  slots : List ProfileSlot
  deriving DecidableEq, Repr

/-- R156: a night record of the history ring. -/
structure NightRecord where
  label : Int
  ws : Nat
  cause : Option CloseCause
  closeTime : Nat
  valid : Bool
  excluded : Bool
  survey : Bool
  saturated : Bool
  /-- the publish hold acted at this completion -/
  pubHeld : Bool
  mnf : Option Int
  estimate : Option Nat
  baseline : Option Nat
  excess : Option Int
  hit : HitResult
  covered : Nat
  missing : Nat
  live : CauseSet
  stateAfter : MonitorState
  leakEntered : Bool
  deriving DecidableEq, Repr

/-- All the part holds for one zone. -/
structure Zone where
  geometry : Geometry
  params : Params
  staged : Staged
  /-- ascending channel (R3) -/
  attach : List Attachment
  night : Option Night
  lastClosed : Option Window
  monitor : MonitorState
  stopPending : Bool
  judge : Judgement
  /-- live values of the causes (R130) -/
  live : CauseSet
  /-- held values of the causes (R130) -/
  held : CauseSet
  /-- the summary is held (R133) -/
  summary : Bool
  /-- the live published record (R139) -/
  published : Option Published
  profile : Option Profile
  /-- the history ring, newest first (R156) -/
  ring : List NightRecord
  frozen : Bool
  unwritten : Nat
  deriving DecidableEq, Repr

/-- A zone after pin reset (R56, R106, R129, R146, R161, R17). -/
def Zone.reset : Zone where
  geometry := Geometry.default
  params := Params.default
  staged := Staged.none
  attach := []
  night := none
  lastClosed := none
  monitor := .standby
  stopPending := false
  judge := Judgement.reset
  live := CauseSet.none
  held := CauseSet.none
  summary := false
  published := none
  profile := none
  ring := []
  frozen := false
  unwritten := 0

/-! ### Groups (R147) -/

/-- R147: how a signal combines its counted members. -/
inductive GroupMode where
  | any
  | all
  deriving DecidableEq, Repr

/-- R147: a group. -/
structure Group where
  /-- ascending zone numbers -/
  members : List Nat
  leakMode : GroupMode
  leakEnable : Bool
  integMode : GroupMode
  integEnable : Bool
  leakValue : Bool
  integValue : Bool
  deriving DecidableEq, Repr

/-- R155: a group after pin reset. -/
def Group.reset : Group := ⟨[], .any, false, .any, false, false, false⟩

/-! ### The Close Engine (R75, R76) and the self-test (R162) -/

/-- R76: an entry of the close queue. -/
inductive QueueEntry where
  | zone (z : Nat)
  | test
  deriving DecidableEq, Repr

/-- R75: a zone close in service. -/
structure CloseItem where
  zone : Nat
  night : Night
  void : Bool
  captured : Params
  deriving DecidableEq, Repr

/-- R75: the item in service. -/
inductive Item where
  | close (c : CloseItem)
  | testRun
  deriving DecidableEq, Repr

/-- R162: the test request. -/
inductive TestRequest where
  | idle
  | queued (test : Nat)
  | running (test : Nat)
  deriving DecidableEq, Repr

/-- R162: the outcome of a test. -/
inductive TestOutcome where
  | pass
  | fail
  | aborted
  deriving DecidableEq, Repr

/-- R168: the meter an AUDIT found. -/
structure AuditFinding where
  zone : Nat
  serial : Nat
  channel : Nat
  deriving DecidableEq, Repr

/-- R162: a filled result record. -/
structure TestResult where
  test : Nat
  outcome : TestOutcome
  failCase : Option Nat
  failMeter : Option AuditFinding
  /-- the part clock, absent while it was UNSET -/
  clock : Option Nat
  deriving DecidableEq, Repr

/-- R162: the Self-Test Unit. -/
structure SelfTest where
  request : TestRequest
  result : Option TestResult
  deriving DecidableEq, Repr

/-! ### Fault capture (R136) and report set (R143) -/

/-- R136: a filled fault capture record. -/
structure Capture where
  kind : FaultKind
  serial : Option Nat
  zone : Option Nat
  time : Nat
  later : Bool
  deriving DecidableEq, Repr

/-- R143: a held report set. -/
structure ReportSet where
  /-- the clock when the set was taken, absent while it was UNSET -/
  stamp : Option Nat
  /-- zone 1 first, 255 of them -/
  zones : List (Option Published)
  /-- group 1 first, 32 of them: the LEAK and the INTEGRITY value -/
  groups : List (Bool × Bool)
  deriving DecidableEq, Repr

/-! ### The Link Interface (Chapter 12) -/

/-- R177: a notice, keyed by its kind and its subject. -/
inductive Notice where
  | nightClosed (zone : Nat) (label : Int) (cause : Option CloseCause) (state : MonitorState) (valid : Bool)
  | zoneState (zone : Nat) (before after : MonitorState)
  | causeHeld (zone : Nat) (causes : CauseSet)
  | groupChange (group : Nat) (leakValue integValue leakEnable integEnable : Bool)
  | meterStale (serial channel baseTime : Nat)
  | testDone (test : Nat) (outcome : TestOutcome)
  deriving DecidableEq, Repr

/-- R173: the receiver. -/
inductive Receiver where
  | hunt
  /-- the bytes taken since the start byte, first to last -/
  | frame (got : List Byte)
  deriving DecidableEq, Repr

/-- The reply codes of section 12.6. -/
inductive ReplyCode where
  | ok | gap | late | duplicate
  | unknownKind | badLength | badField | noClock
  | alreadyPresent | directoryFull | attachFull | groupFull
  | zoneActive | notActive | noMeters | noNight
  | clockBack | unknownMeter | notEnded | tooLate
  | outOfOrder | conflict | futureTime | busy
  | alreadyHeld | notHeld
  deriving DecidableEq, Repr

/-- R175: a reply frame: its kind, tag, reply code, flags byte and body. -/
structure Reply where
  kind : Byte
  tag : Byte
  code : ReplyCode
  flags : Byte
  body : List Byte
  deriving DecidableEq, Repr

/-- R183: the two levels of RESTART. -/
inductive RestartLevel where
  | runtime
  | full
  deriving DecidableEq, Repr

/-- R184: where the part stands against its reset pin. -/
inductive Power where
  /-- the pin is asserted -/
  | inReset
  /-- the pin has been released; the part is not ready yet -/
  | starting
  | ready
  deriving DecidableEq, Repr

/-- R171: the line rate. -/
inductive LineRate where
  | baud115200
  | baud460800
  deriving DecidableEq, Repr

/-- The Link Interface's state. -/
structure Link where
  power : Power
  lineRate : LineRate
  receiver : Receiver
  /-- complete frames awaiting dispatch, oldest first (R174) -/
  intake : List Frame
  overrun : Bool
  /-- oldest first (R177) -/
  notices : List Notice
  overflow : Bool
  /-- the reply last handed to the transmitter (R175; log 8) -/
  reply : Option Reply
  /-- a RESTART that was taken and has not taken effect (R183) -/
  restart : Option RestartLevel
  deriving DecidableEq, Repr

/-- R185, with the power phase and the line rate given. -/
def Link.reset (power : Power) (rate : LineRate) : Link where
  power := power
  lineRate := rate
  receiver := .hunt
  intake := []
  overrun := false
  notices := []
  overflow := false
  reply := none
  restart := none

/-- R181: the four part settings. -/
structure PartSettings where
  gapLimit : Nat
  skew : Nat
  staleLimit : Nat
  offset : Int
  deriving DecidableEq, Repr

/-- R181: their defaults. -/
def PartSettings.default : PartSettings := ⟨16, 120, 24, 0⟩

/-! ### The whole part -/

/-- The state of the part, with the queue of the commands that wait (log 1). -/
structure State where
  /-- the commands that wait, first in first out (the model's own) -/
  pending : List Instr
  link : Link
  /-- the part clock, absent while UNSET (R38) -/
  clock : Option Nat
  settings : PartSettings
  /-- channel to meter record, channels rising (R1) -/
  meters : List (Nat × Meter)
  /-- serial to channel, serials rising (R1) -/
  serials : List (Nat × Nat)
  /-- zone number to zone, numbers rising; a zone that is not listed is `Zone.reset` (log 16) -/
  zones : List (Nat × Zone)
  /-- head first (R76) -/
  closeQueue : List QueueEntry
  /-- the item in service; none is IDLE (R75) -/
  engine : Option Item
  /-- the fault capture record; none is empty (R136) -/
  capture : Option Capture
  /-- the held report set; none is not held (R143) -/
  report : Option ReportSet
  /-- group number to group, numbers rising; a group that is not listed is `Group.reset` (log 16) -/
  groups : List (Nat × Group)
  test : SelfTest
  /-- FREE VALUE's counter (log 6): the model's own -/
  freeCount : Nat
  deriving DecidableEq, Repr

/-- The part right after a pin reset, ready for its first frame: R17, R36, R56, R74, R93, R106, R129, R146, R155, R161,
R162, R185. Log 4 says why it is ready, log 5 which line rate it has. -/
def State.reset : State where
  pending := []
  link := Link.reset .ready .baud115200
  clock := none
  settings := PartSettings.default
  meters := []
  serials := []
  zones := []
  closeQueue := []
  engine := none
  capture := none
  report := none
  groups := []
  test := ⟨.idle, none⟩
  freeCount := 0

end Sys2Proof.Machine
end

