-- ==== Sys2Proof/Machine/Wire.lean ====
section
/-! DEFINITION. The bytes of section 12.6: little-endian numbers, presence bytes, coded values, the CRC and the frame. -/

namespace Sys2Proof.Machine

/-! ### Numbers (R172: little-endian throughout) -/

/-- A number in `w` bytes, least significant first. -/
def putNat : Nat → Nat → List Byte
  | 0, _ => []
  | w + 1, n => BitVec.ofNat 8 n :: putNat w (n / 256)

/-- A signed number in `w` bytes, two's complement. -/
def putInt (w : Nat) (i : Int) : List Byte :=
  putNat w (i % (256 ^ w : Nat)).toNat

/-- The number that bytes, least significant first, carry. -/
def getNat : List Byte → Nat
  | [] => 0
  | b :: rest => b.toNat + 256 * getNat rest

/-- The signed number that bytes carry, two's complement. -/
def getInt (bytes : List Byte) : Int :=
  if 2 * getNat bytes < 256 ^ bytes.length then (getNat bytes : Int)
  else (getNat bytes : Int) - (256 ^ bytes.length : Nat)

/-- The `w` bytes of a payload from offset `at'`. -/
def slice (payload : List Byte) (at' w : Nat) : List Byte :=
  (payload.drop at').take w

/-- The number in the `w` bytes of a payload from offset `at'`. -/
def fieldAt (payload : List Byte) (at' w : Nat) : Nat :=
  getNat (slice payload at' w)

/-- A flag: 1 where set (section 12.6). -/
def putBool (b : Bool) : List Byte := putNat 1 b.toNat

/-- An optional part: a presence byte, then its `w` bytes, zero when absent (R186; log 9). -/
def putOption (w : Nat) (part : Option (List Byte)) : List Byte :=
  match part with
  | some bytes => putNat 1 1 ++ bytes
  | none => putNat 1 0 ++ putNat w 0

/-- An optional number of `w` bytes. -/
def putOptNat (w : Nat) (n : Option Nat) : List Byte := putOption w (n.map (putNat w))

/-- An optional signed number of `w` bytes. -/
def putOptInt (w : Nat) (i : Option Int) : List Byte := putOption w (i.map (putInt w))

/-! ### Coded values (section 12.6) -/

def MonitorState.code : MonitorState → Nat
  | .standby => 0
  | .learning => 1
  | .watch => 2
  | .suspect => 3
  | .leak => 4
  | .survey => 5

def CloseCause.code : CloseCause → Nat
  | .complete => 1
  | .deadline => 2
  | .forced => 3

/-- A record closed with no cause cannot arise (R45); it would carry 0. -/
def closeCauseCode (c : Option CloseCause) : Nat :=
  match c with
  | some c => c.code
  | none => 0

def HitFlag.code : HitFlag → Nat
  | .nonHit => 1
  | .hit => 2

def HitResult.code : HitResult → Nat
  | .notJudged => 0
  | .judged f => f.code

def TestOutcome.code : TestOutcome → Nat
  | .pass => 1
  | .fail => 2
  | .aborted => 3

def MeterKind.code : MeterKind → Nat
  | .register => 0
  | .pulse => 1

def Flow.code : Flow → Nat
  | .oneWay => 0
  | .twoWay => 1

def MeterState.code : MeterState → Nat
  | .unbased => 0
  | .live => 1
  | .stale => 2

def MeterFault.code : MeterFault → Nat
  | .overrange => 1
  | .regression => 2
  | .lostReports => 3
  | .longGap => 4

def Cause.code : Cause → Nat
  | .coverage => 5
  | .negative => 6
  | .meter => 7
  | .dark => 8
  | .saturated => 9

def FaultKind.code : FaultKind → Nat
  | .meterFault f => f.code
  | .zoneCause c => c.code

def NightState.code : NightState → Nat
  | .pending => 0
  | .waiting => 1
  | .queued => 2
  | .closing => 3

def GroupMode.code : GroupMode → Nat
  | .any => 0
  | .all => 1

def LeakNotify.code : LeakNotify → Nat
  | .off => 0
  | .rising => 1
  | .falling => 2
  | .both => 3

def LineRate.code : LineRate → Nat
  | .baud115200 => 0
  | .baud460800 => 1

def TestRequest.code : TestRequest → Nat
  | .idle => 0
  | .queued _ => 1
  | .running _ => 2

/-- The causes-live byte of the published record: bit 0 COVERAGE to bit 4 SATURATED. -/
def CauseSet.code (c : CauseSet) : Nat :=
  c.coverage.toNat + 2 * c.negative.toNat + 4 * c.meter.toNat + 8 * c.dark.toNat + 16 * c.saturated.toNat

/-- The set of causes that the bits of a byte give. -/
def CauseSet.ofCode (n : Nat) : CauseSet :=
  ⟨n.testBit 0, n.testBit 1, n.testBit 2, n.testBit 3, n.testBit 4⟩

def LeakNotify.ofCode (n : Nat) : LeakNotify :=
  match n with
  | 0 => .off
  | 1 => .rising
  | 2 => .falling
  | _ => .both

/-- The reply codes of section 12.6. -/
def ReplyCode.code : ReplyCode → Nat
  | .ok => 0x00
  | .gap => 0x01
  | .late => 0x02
  | .duplicate => 0x03
  | .unknownKind => 0x10
  | .badLength => 0x11
  | .badField => 0x12
  | .noClock => 0x13
  | .alreadyPresent => 0x14
  | .directoryFull => 0x15
  | .attachFull => 0x16
  | .groupFull => 0x17
  | .zoneActive => 0x18
  | .notActive => 0x19
  | .noMeters => 0x1A
  | .noNight => 0x1B
  | .clockBack => 0x1C
  | .unknownMeter => 0x1D
  | .notEnded => 0x1E
  | .tooLate => 0x1F
  | .outOfOrder => 0x20
  | .conflict => 0x21
  | .futureTime => 0x22
  | .busy => 0x23
  | .alreadyHeld => 0x24
  | .notHeld => 0x25

/-! ### The frame and its CRC (R172) -/

/-- One of the 8 steps a byte makes of the CRC register. -/
def crcStep (r : BitVec 16) : BitVec 16 :=
  if r.msb then (r <<< 1) ^^^ 0x1021 else r <<< 1

/-- The CRC register after `k` more steps. -/
def crcSteps : Nat → BitVec 16 → BitVec 16
  | 0, r => r
  | k + 1, r => crcSteps k (crcStep r)

/-- The CRC register after one byte. -/
def crcByte (r : BitVec 16) (b : Byte) : BitVec 16 :=
  crcSteps 8 (r ^^^ (b.zeroExtend 16 <<< 8))

/-- The CRC of the bytes from the first payload length byte through the last payload byte. -/
def crc (bytes : List Byte) : BitVec 16 :=
  bytes.foldl crcByte 0xFFFF

/-- The bytes the CRC covers: length, kind, tag, payload. -/
def frameCovered (f : Frame) : List Byte :=
  putNat 2 f.payload.length ++ [f.kind, f.tag] ++ f.payload

/-- A whole frame, as sent in either direction (R172). -/
def frameBytes (f : Frame) : List Byte :=
  Config.startByte :: (frameCovered f ++ putNat 2 (crc (frameCovered f)).toNat)

/-- The frame of a reply: its payload begins with the reply code and the flags byte (R175). -/
def Reply.frame (r : Reply) : Frame where
  kind := r.kind
  tag := r.tag
  payload := putNat 1 r.code.code ++ [r.flags] ++ r.body

/-- The bytes of a reply on TXD. -/
def Reply.bytes (r : Reply) : List Byte := frameBytes r.frame

/-! ### Records within replies -/

/-- R15, R6: a base; absent, its 18 bytes are zero (log 9, log 11). -/
def putBase (b : Base) : List Byte :=
  putNat 4 b.time ++ putOptNat 5 b.forward ++ putOptNat 5 b.reverse ++ putOptNat 1 b.sequence

/-- R15, R58: a cover record; absent, its 12 bytes are zero (log 9, log 11). -/
def putCover (c : Cover) : List Byte :=
  putOptNat 4 c.runStart ++ putNat 4 c.runEnd ++ putNat 2 c.mask.toNat ++ putBool c.faulted

/-- R15: the body of METER_READ. -/
def putMeter (channel : Nat) (m : Meter) : List Byte :=
  putNat 4 m.serial ++ putNat 2 channel ++ putNat 1 m.kind.code ++ putNat 1 m.flow.code ++ putNat 2 m.unit ++
  putNat 1 (m.digits.getD 0) ++ putNat 4 m.qmax ++ putNat 1 m.fromZone ++ putNat 1 m.toZone ++
  putNat 1 m.state.code ++ putOption 18 (m.base.map putBase) ++
  (match m.lastFault with
    | some (f, t) => putNat 1 f.code ++ putOptNat 4 (some t)
    | none => putNat 1 0 ++ putOptNat 4 none) ++
  putOption 12 (m.fromCover.map putCover) ++ putOption 12 (m.toCover.map putCover)

/-- Bit `k` of a flags byte. -/
def flagBit (k : Nat) (b : Bool) : Nat := b.toNat * 2 ^ k

/-- The published record of section 12.6, 29 bytes. `source` is 0 for the live set and 1 for the held set; an absent
record carries its source plus 2 and zeros (log 11). -/
def putPublished (source : Nat) (p : Option Published) : List Byte :=
  match p with
  | none => putNat 1 (source + 2) ++ putNat 28 0
  | some p =>
    putNat 1 source ++ putInt 4 p.label ++ putNat 1 (closeCauseCode p.cause) ++
    putNat 1 (flagBit 0 p.valid + flagBit 1 p.excluded + flagBit 2 p.survey + flagBit 3 p.held + flagBit 4 p.saturated) ++
    putNat 1 (flagBit 0 p.mnf.isSome + flagBit 1 p.estimate.isSome + flagBit 2 p.baseline.isSome +
      flagBit 3 p.excess.isSome) ++
    putInt 4 (p.mnf.getD 0) ++ putNat 4 (p.estimate.getD 0) ++ putNat 4 (p.baseline.getD 0) ++
    putInt 4 (p.excess.getD 0) ++ putNat 1 p.hit.code ++ putNat 1 p.covered ++ putNat 1 p.missing ++
    putNat 1 p.live.code ++ putNat 1 p.stateAfter.code

/-- R156, R160: a night record within HISTORY_READ. -/
def putNightRecord (r : NightRecord) : List Byte :=
  putInt 4 r.label ++ putNat 5 r.ws ++ putNat 1 (closeCauseCode r.cause) ++ putNat 4 r.closeTime ++
  putBool r.valid ++ putBool r.excluded ++ putBool r.survey ++ putBool r.saturated ++ putBool r.pubHeld ++
  putOptInt 4 r.mnf ++ putOptNat 4 r.estimate ++ putOptNat 4 r.baseline ++ putOptInt 4 r.excess ++
  putNat 1 r.hit.code ++ putNat 1 r.covered ++ putNat 1 r.missing ++ putNat 1 r.live.code ++
  putNat 1 r.stateAfter.code ++ putBool r.leakEntered

/-- R141: one slot of ZONE_PROFILE. -/
def putProfileSlot (p : ProfileSlot) : List Byte :=
  putOptInt 8 p.volume ++ putNat 1 p.count

/-- R137: the fault capture record; empty, its 13 bytes are zero (log 11). -/
def putCapture (c : Option Capture) : List Byte :=
  putOption 13 (c.map fun c =>
    putNat 1 c.kind.code ++ putOptNat 4 c.serial ++ putOptNat 1 c.zone ++ putNat 4 c.time ++ putBool c.later)

/-- The kind byte of a notice record (section 12.6). -/
def Notice.code : Notice → Nat
  | .nightClosed .. => 1
  | .zoneState .. => 2
  | .causeHeld .. => 3
  | .groupChange .. => 4
  | .meterStale .. => 5
  | .testDone .. => 6

/-- R177: the subject of a notice; 0 for the part itself. -/
def Notice.subject : Notice → Nat
  | .nightClosed z .. => z
  | .zoneState z .. => z
  | .causeHeld z _ => z
  | .groupChange g .. => g
  | .meterStale serial .. => serial
  | .testDone .. => 0

/-- The content of a notice record (section 12.6), before its unused bytes. -/
def Notice.content : Notice → List Byte
  | .nightClosed _ label cause st valid =>
    putInt 4 label ++ putNat 1 (closeCauseCode cause) ++ putNat 1 (st.code + flagBit 7 valid)
  | .zoneState _ before after => putNat 1 before.code ++ putNat 1 after.code
  | .causeHeld _ causes => putNat 1 causes.code
  | .groupChange _ lv iv le ie => putNat 1 (flagBit 0 lv + flagBit 1 iv + flagBit 2 le + flagBit 3 ie)
  | .meterStale _ channel baseTime => putNat 2 channel ++ putNat 4 baseTime
  | .testDone test outcome => putNat 1 test ++ putNat 1 outcome.code

/-- The 11 bytes of a notice record: kind, subject, and the content filled up to 6 bytes with zeros. -/
def putNotice (n : Notice) : List Byte :=
  putNat 1 n.code ++ putNat 4 n.subject ++ n.content ++ putNat (6 - n.content.length) 0

/-- The OVERFLOW item: kind 7, no subject, no content (R179). -/
def putOverflow : List Byte := putNat 1 7 ++ putNat 10 0

end Sys2Proof.Machine
end

