-- ==== Sys2Proof/Machine/Flags.lean ====
section
/-! DEFINITION. The flags and indications the part computes: ATTN and the flags byte of a reply, the sets of causes and the
summary, and which changes of monitor state select a notice. -/

namespace Sys2Proof.Machine

/-! ### ATTN (R180) and the flags byte (R175) -/

/-- The ATTN line: asserted while a notice is queued or the overflow marker is set, and never while the reset pin is
asserted. -/
def Link.attn (l : Link) : Bool :=
  l.power ≠ .inReset && (!l.notices.isEmpty || l.overflow)

/-- The ATTN line of the part. -/
def State.attn (s : State) : Bool := s.link.attn

/-- The flags byte of a reply: bit 0 overrun-before, bit 1 attention, the other bits 0. -/
def Link.flagsByte (l : Link) : Byte :=
  BitVec.ofNat 8 (flagBit 0 l.overrun + flagBit 1 l.attn)

/-! ### Sets of causes (R130 to R133) -/

/-- The causes in either set. -/
def CauseSet.union (a b : CauseSet) : CauseSet :=
  ⟨a.coverage || b.coverage, a.negative || b.negative, a.meter || b.meter, a.dark || b.dark, a.saturated || b.saturated⟩

/-- The causes in both sets. -/
def CauseSet.inter (a b : CauseSet) : CauseSet :=
  ⟨a.coverage && b.coverage, a.negative && b.negative, a.meter && b.meter, a.dark && b.dark, a.saturated && b.saturated⟩

/-- The causes in the first set and not in the second. -/
def CauseSet.diff (a b : CauseSet) : CauseSet :=
  ⟨a.coverage && !b.coverage, a.negative && !b.negative, a.meter && !b.meter, a.dark && !b.dark,
    a.saturated && !b.saturated⟩

/-- Every cause of the first set is in the second. -/
def CauseSet.subset (a b : CauseSet) : Bool := a.diff b = CauseSet.none

/-- The members of a set, in the order COVERAGE, NEGATIVE, METER, DARK, SATURATED (R130). -/
def CauseSet.toList (c : CauseSet) : List Cause :=
  (if c.coverage then [.coverage] else []) ++ (if c.negative then [.negative] else []) ++
  (if c.meter then [.meter] else []) ++ (if c.dark then [.dark] else []) ++ (if c.saturated then [.saturated] else [])

/-- The summary: held when a cause that the route mask includes is held (R133). -/
def summaryOf (route held : CauseSet) : Bool := decide (route.inter held ≠ CauseSet.none)

/-! ### Monitor states (R107) -/

/-- LEARNING, WATCH, SUSPECT or LEAK. -/
def MonitorState.monitored : MonitorState → Bool
  | .standby => false
  | .learning => true
  | .watch => true
  | .suspect => true
  | .leak => true
  | .survey => false

/-- WATCH, SUSPECT or LEAK. -/
def MonitorState.armed : MonitorState → Bool
  | .standby => false
  | .learning => false
  | .watch => true
  | .suspect => true
  | .leak => true
  | .survey => false

/-- The leak directions that select a change into LEAK. -/
def LeakNotify.picksRising : LeakNotify → Bool
  | .off => false
  | .rising => true
  | .falling => false
  | .both => true

/-- The leak directions that select a change out of LEAK. -/
def LeakNotify.picksFalling : LeakNotify → Bool
  | .off => false
  | .rising => false
  | .falling => true
  | .both => true

/-- R178: a change of monitor state is selected by the notify settings. -/
def changeSelected (p : Params) (before after : MonitorState) : Bool :=
  before ≠ after &&
    ((after = .leak && p.notifyLeak.picksRising) ||
     (before = .leak && p.notifyLeak.picksFalling) ||
     ((before = .suspect || after = .suspect) && p.notifySuspect))

/-! ### Nights (R45, R53) and windows (R63) -/

/-- A PENDING or WAITING night takes volume. -/
def NightState.isOpen : NightState → Bool
  | .pending => true
  | .waiting => true
  | .queued => false
  | .closing => false

/-- A window [a, b) overlaps the span [t0, t1) when t0 < b and t1 > a (R63). -/
def overlaps (ws we t0 t1 : Nat) : Bool := t0 < we && ws < t1

end Sys2Proof.Machine
end

