-- ==== Sys2Proof/Machine/Operands.lean ====
section
/-! DEFINITION. The operands of the requests: how a payload's bytes give a request's fields (R176 step 2, R186), and how a
request's fields are written as bytes.

`none` is BAD_LENGTH: a payload too short or too long, or a presence byte whose value the message does not define. Where a
count is itself out of range the length is not checked further (R176), and the request has the count and no items.
Fields keep their carried numbers here; the owners check their ranges. -/

namespace Sys2Proof.Machine

/-! ### Shared forms -/

/-- A presence byte: 0 absent, 1 present, any other value undetermined (R186). -/
def presenceAt (p : List Byte) (at' : Nat) : Option Bool :=
  match fieldAt p at' 1 with
  | 0 => some false
  | 1 => some true
  | _ => none

/-- An optional field of `w` bytes with its presence byte at `at'` (R186; log 9: an absent field's bytes are not read). -/
def optionAt (p : List Byte) (at' w : Nat) : Option (Option Nat) :=
  (presenceAt p at').map fun here => if here then some (fieldAt p (at' + 1) w) else none

/-- A request of no fields. -/
def parseEmpty (p : List Byte) : Option Unit :=
  if p.length = 0 then some () else none

/-- A request of one number of `w` bytes. -/
def parseNumber (w : Nat) (p : List Byte) : Option Nat :=
  if p.length = w then some (getNat p) else none

/-- A list of `k` settings entries, each an identifier and a signed 4-byte value (R42, R181, R186). -/
def parseEntries : Nat → List Byte → List (Nat × Int)
  | 0, _ => []
  | k + 1, p => (fieldAt p 0 1, getInt (slice p 1 4)) :: parseEntries k (p.drop 5)

/-- The bytes of settings entries. -/
def putEntries (entries : List (Nat × Int)) : List Byte :=
  entries.flatMap fun e => putNat 1 e.1 ++ putInt 4 e.2

/-! ### Meter directory (Chapter 1) -/

/-- The description of a meter as ADD_METER and REPLACE_METER carry it (R2). -/
structure MeterSpec where
  kind : Nat
  flow : Nat
  unit : Nat
  digits : Nat
  qmax : Nat
  deriving DecidableEq, Repr

/-- The 9 bytes of a description: kind, flow, unit (2), digits, qmax (4). -/
def putSpec (d : MeterSpec) : List Byte :=
  putNat 1 d.kind ++ putNat 1 d.flow ++ putNat 2 d.unit ++ putNat 1 d.digits ++ putNat 4 d.qmax

/-- The description that starts at `at'`. -/
def specAt (p : List Byte) (at' : Nat) : MeterSpec :=
  ⟨fieldAt p at' 1, fieldAt p (at' + 1) 1, fieldAt p (at' + 2) 2, fieldAt p (at' + 4) 1, fieldAt p (at' + 5) 4⟩

/-- ADD_METER's fields. -/
structure AddMeterReq where
  serial : Nat
  spec : MeterSpec
  deriving DecidableEq, Repr

def parseAddMeter (p : List Byte) : Option AddMeterReq :=
  if p.length = 13 then some ⟨fieldAt p 0 4, specAt p 4⟩ else none

def putAddMeter (r : AddMeterReq) : List Byte := putNat 4 r.serial ++ putSpec r.spec

/-- ATTACH_METER's fields. -/
structure AttachReq where
  serial : Nat
  fromZone : Nat
  toZone : Nat
  deriving DecidableEq, Repr

def parseAttach (p : List Byte) : Option AttachReq :=
  if p.length = 6 then some ⟨fieldAt p 0 4, fieldAt p 4 1, fieldAt p 5 1⟩ else none

def putAttach (r : AttachReq) : List Byte := putNat 4 r.serial ++ putNat 1 r.fromZone ++ putNat 1 r.toZone

/-- REPLACE_METER's fields. -/
structure ReplaceReq where
  serial : Nat
  newSerial : Option Nat
  spec : MeterSpec
  time : Nat
  forward : Nat
  reverse : Option Nat
  sequence : Option Nat
  deriving DecidableEq, Repr

def parseReplace (p : List Byte) : Option ReplaceReq :=
  if p.length = 35 then
    match optionAt p 4 4, optionAt p 27 5, optionAt p 33 1 with
    | some newSerial, some reverse, some sequence =>
      some ⟨fieldAt p 0 4, newSerial, specAt p 9, fieldAt p 18 4, fieldAt p 22 5, reverse, sequence⟩
    | _, _, _ => none
  else none

def putReplace (r : ReplaceReq) : List Byte :=
  putNat 4 r.serial ++ putOptNat 4 r.newSerial ++ putSpec r.spec ++ putNat 4 r.time ++ putNat 5 r.forward ++
  putOptNat 5 r.reverse ++ putOptNat 1 r.sequence

/-- METER_READ's fields; the key is carried in 4 bytes for either selector (log 10). -/
structure MeterReadReq where
  selector : Nat
  key : Nat
  deriving DecidableEq, Repr

def parseMeterRead (p : List Byte) : Option MeterReadReq :=
  if p.length = 5 then some ⟨fieldAt p 0 1, fieldAt p 1 4⟩ else none

def putMeterRead (r : MeterReadReq) : List Byte := putNat 1 r.selector ++ putNat 4 r.key

/-! ### Readings (Chapter 2) -/

/-- R18: a reading record. -/
structure ReadingRecord where
  serial : Nat
  time : Nat
  forward : Nat
  reverse : Option Nat
  sequence : Option Nat
  deriving DecidableEq, Repr

/-- The reading record at the head of some bytes, and what follows it (section 12.6). -/
def parseRecord (p : List Byte) : Option (ReadingRecord × List Byte) :=
  let presence := fieldAt p 8 1
  let hasReverse := presence.testBit 0
  let hasSequence := presence.testBit 1
  let seqAt := if hasReverse then 19 else 14
  let length := seqAt + hasSequence.toNat
  if presence ≤ 3 ∧ length ≤ p.length then
    some (⟨fieldAt p 0 4, fieldAt p 4 4, fieldAt p 9 5, if hasReverse then some (fieldAt p 14 5) else none,
      if hasSequence then some (fieldAt p seqAt 1) else none⟩, p.drop length)
  else none

/-- The bytes of a reading record (section 12.6). -/
def putRecord (r : ReadingRecord) : List Byte :=
  putNat 4 r.serial ++ putNat 4 r.time ++ putNat 1 (r.reverse.isSome.toNat + 2 * r.sequence.isSome.toNat) ++
  putNat 5 r.forward ++ (match r.reverse with | some v => putNat 5 v | none => []) ++
  (match r.sequence with | some v => putNat 1 v | none => [])

/-- A READING's payload: one reading record and nothing more (R19). -/
def parseReading (p : List Byte) : Option ReadingRecord :=
  match parseRecord p with
  | some (r, []) => some r
  | _ => none

/-- Exactly `k` reading records and nothing more. -/
def parseRecords : Nat → List Byte → Option (List ReadingRecord)
  | 0, p => if p.length = 0 then some [] else none
  | k + 1, p =>
    match parseRecord p with
    | some (r, rest) => (parseRecords k rest).map (r :: ·)
    | none => none

/-- A READING_BATCH's payload: the count, and the records where the count is 1 to 16 (R20, R176). -/
structure BatchReq where
  count : Nat
  records : List ReadingRecord
  deriving DecidableEq, Repr

def batchCountOk (count : Nat) : Bool := 1 ≤ count && count ≤ 16

def parseBatch (p : List Byte) : Option BatchReq :=
  if p.length < 1 then none
  else if batchCountOk (fieldAt p 0 1) then
    (parseRecords (fieldAt p 0 1) (p.drop 1)).map fun rs => ⟨fieldAt p 0 1, rs⟩
  else some ⟨fieldAt p 0 1, []⟩

def putBatch (rs : List ReadingRecord) : List Byte :=
  putNat 1 rs.length ++ rs.flatMap putRecord

/-! ### Settings -/

/-- PART_SET's payload (R181). -/
structure PartSetReq where
  count : Nat
  entries : List (Nat × Int)
  deriving DecidableEq, Repr

def partCountOk (count : Nat) : Bool := 1 ≤ count && count ≤ 4

def parsePartSet (p : List Byte) : Option PartSetReq :=
  if p.length < 1 then none
  else if partCountOk (fieldAt p 0 1) then
    if p.length = 1 + 5 * fieldAt p 0 1 then
      some ⟨fieldAt p 0 1, parseEntries (fieldAt p 0 1) (p.drop 1)⟩
    else none
  else some ⟨fieldAt p 0 1, []⟩

def putPartSet (entries : List (Nat × Int)) : List Byte := putNat 1 entries.length ++ putEntries entries

/-- ZONE_SET's payload (R42). -/
structure ZoneSetReq where
  zone : Nat
  count : Nat
  entries : List (Nat × Int)
  deriving DecidableEq, Repr

def zoneEntryCountOk (count : Nat) : Bool := 1 ≤ count && count ≤ 20

def parseZoneSet (p : List Byte) : Option ZoneSetReq :=
  if p.length < 2 then none
  else if zoneEntryCountOk (fieldAt p 1 1) then
    if p.length = 2 + 5 * fieldAt p 1 1 then
      some ⟨fieldAt p 0 1, fieldAt p 1 1, parseEntries (fieldAt p 1 1) (p.drop 2)⟩
    else none
  else some ⟨fieldAt p 0 1, fieldAt p 1 1, []⟩

def putZoneSet (zone : Nat) (entries : List (Nat × Int)) : List Byte :=
  putNat 1 zone ++ putNat 1 entries.length ++ putEntries entries

/-! ### Zones, groups, history -/

/-- ZONE_START's fields. -/
structure ZoneStartReq where
  zone : Nat
  mode : Nat
  seed : Option Nat
  deriving DecidableEq, Repr

def parseZoneStart (p : List Byte) : Option ZoneStartReq :=
  if p.length = 7 then (optionAt p 2 4).map fun seed => ⟨fieldAt p 0 1, fieldAt p 1 1, seed⟩ else none

def putZoneStart (r : ZoneStartReq) : List Byte := putNat 1 r.zone ++ putNat 1 r.mode ++ putOptNat 4 r.seed

/-- GROUP_SET's fields (section 9.3). -/
structure GroupSetReq where
  group : Nat
  leakMode : Nat
  leakEnable : Nat
  integMode : Nat
  integEnable : Nat
  count : Nat
  members : List Nat
  deriving DecidableEq, Repr

def groupCountOk (count : Nat) : Bool := count ≤ 32

def parseGroupSet (p : List Byte) : Option GroupSetReq :=
  if p.length < 6 then none
  else if groupCountOk (fieldAt p 5 1) then
    if p.length = 6 + fieldAt p 5 1 then
      some ⟨fieldAt p 0 1, fieldAt p 1 1, fieldAt p 2 1, fieldAt p 3 1, fieldAt p 4 1, fieldAt p 5 1,
        (p.drop 6).map (·.toNat)⟩
    else none
  else some ⟨fieldAt p 0 1, fieldAt p 1 1, fieldAt p 2 1, fieldAt p 3 1, fieldAt p 4 1, fieldAt p 5 1, []⟩

def putGroupSet (r : GroupSetReq) : List Byte :=
  putNat 1 r.group ++ putNat 1 r.leakMode ++ putNat 1 r.leakEnable ++ putNat 1 r.integMode ++
  putNat 1 r.integEnable ++ putNat 1 r.count ++ r.members.flatMap (putNat 1)

/-- HISTORY_READ's fields. -/
structure HistoryReadReq where
  zone : Nat
  first : Nat
  count : Nat
  deriving DecidableEq, Repr

def parseHistoryRead (p : List Byte) : Option HistoryReadReq :=
  if p.length = 3 then some ⟨fieldAt p 0 1, fieldAt p 1 1, fieldAt p 2 1⟩ else none

def putHistoryRead (r : HistoryReadReq) : List Byte := putNat 1 r.zone ++ putNat 1 r.first ++ putNat 1 r.count

end Sys2Proof.Machine
end

