-- ==== Sys2Proof/Machine/Table.lean ====
section
/-! DEFINITION. Sparse tables: lists of (number, record) pairs with rising numbers (log 16).

The meter records, the serial map, the zones and the groups are held so. Two tables in canonical form that read alike are
equal lists. -/

namespace Sys2Proof.Machine

/-- A table of records by number. -/
abbrev Table (β : Type) := List (Nat × β)

/-- The record under `k`. -/
def Table.find? {β : Type} (t : Table β) (k : Nat) : Option β :=
  match t with
  | [] => none
  | (k', v) :: rest => if k' = k then some v else Table.find? rest k

/-- The table with `v` under `k`, whatever stood there. -/
def Table.insert {β : Type} (t : Table β) (k : Nat) (v : β) : Table β :=
  match t with
  | [] => [(k, v)]
  | (k', v') :: rest =>
    if k < k' then (k, v) :: (k', v') :: rest
    else if k = k' then (k, v) :: rest
    else (k', v') :: Table.insert rest k v

/-- The table with nothing under `k`. -/
def Table.erase {β : Type} (t : Table β) (k : Nat) : Table β :=
  t.filter (fun e => decide (e.1 ≠ k))

/-- The table with `v` under `k`, not listed where `v` is what an unlisted number reads as. -/
def Table.put {β : Type} [DecidableEq β] (d : β) (t : Table β) (k : Nat) (v : β) : Table β :=
  if v = d then Table.erase t k else Table.insert t k v

/-- The record under `k`, or what an unlisted number reads as. -/
def Table.read {β : Type} (d : β) (t : Table β) (k : Nat) : β :=
  (Table.find? t k).getD d

/-- Every listed record changed by `f`; what becomes the unlisted record is no longer listed. -/
def Table.mapListed {β : Type} [DecidableEq β] (d : β) (f : β → β) (t : Table β) : Table β :=
  (t.map (fun e => (e.1, f e.2))).filter (fun e => decide (e.2 ≠ d))

/-- The canonical form: numbers strictly rising. -/
abbrev Table.Rising {β : Type} (t : Table β) : Prop :=
  t.Pairwise (fun a b => a.1 < b.1)

/-- The canonical form of a table with a record for unlisted numbers: rising, and that record never listed. -/
abbrev Table.Canonical {β : Type} (d : β) (t : Table β) : Prop :=
  Table.Rising t ∧ ∀ e ∈ t, e.2 ≠ d

end Sys2Proof.Machine
end

