-- ==== Sys2Proof/Machine/Ops.lean ====
section
/-! DEFINITION. The named operations the meanings share: reading and writing the tables, raising a notice, offering a
fault to the capture record, the close queue, and serving a request. -/

namespace Sys2Proof.Machine

/-! ### The tables -/

/-- The record of zone `z`. -/
def State.zone (s : State) (z : Nat) : Zone := Table.read Zone.reset s.zones z

/-- Zone `z` becomes `v`. -/
def State.setZone (s : State) (z : Nat) (v : Zone) : State :=
  { s with zones := Table.put Zone.reset s.zones z v }

/-- Zone `z` changed by `f`. -/
def State.updZone (s : State) (z : Nat) (f : Zone → Zone) : State := s.setZone z (f (s.zone z))

/-- The meter record at a channel. -/
def State.meter? (s : State) (ch : Nat) : Option Meter := Table.find? s.meters ch

/-- The meter record at channel `ch` becomes `m`. -/
def State.setMeter (s : State) (ch : Nat) (m : Meter) : State :=
  { s with meters := Table.insert s.meters ch m }

/-- The meter record at a channel, where there is one, changed by `f`. -/
def State.updMeter (s : State) (ch : Nat) (f : Meter → Meter) : State :=
  match s.meter? ch with
  | some m => s.setMeter ch (f m)
  | none => s

/-- The record and the map entry of a channel's meter leave the directory (R11). -/
def State.dropMeter (s : State) (ch serial : Nat) : State :=
  { s with meters := Table.erase s.meters ch, serials := Table.erase s.serials serial }

/-- The channel a serial maps to (R1). -/
def State.channelOf (s : State) (serial : Nat) : Option Nat := Table.find? s.serials serial

/-- A serial resolved through the map to a channel and its record (R1). -/
def State.meterBySerial (s : State) (serial : Nat) : Option (Nat × Meter) :=
  match s.channelOf serial with
  | some ch => (s.meter? ch).map fun m => (ch, m)
  | none => none

/-- A group. -/
def State.group (s : State) (g : Nat) : Group := Table.read Group.reset s.groups g

/-- Group `g` becomes `v`. -/
def State.setGroup (s : State) (g : Nat) (v : Group) : State :=
  { s with groups := Table.put Group.reset s.groups g v }

/-- The zone numbers, ascending. -/
def zoneNumbers : List Nat := List.range' 1 Config.zoneCount

/-- The group numbers, ascending. -/
def groupNumbers : List Nat := List.range' 1 Config.groupCount

/-- A zone number of the range every zone command checks first. -/
def zoneOk (z : Nat) : Bool := 1 ≤ z && z ≤ Config.zoneCount

/-- The clock as a number; UNSET reads 0 where a rule needs a time and no run leaves it UNSET (log 15). -/
def State.now (s : State) : Nat := s.clock.getD 0

/-! ### Notices (R177) -/

/-- Two notices have the same key: kind and subject. -/
def sameKey (a b : Notice) : Bool := a.code = b.code && a.subject = b.subject

/-- What a queued notice becomes when `new` is raised for its key. -/
def coalesce (old new : Notice) : Notice :=
  match old, new with
  | .zoneState z before _, .zoneState _ _ after => .zoneState z before after
  | .causeHeld z a, .causeHeld _ b => .causeHeld z (a.union b)
  | _, new => new

/-- The notice queue and the overflow marker after a raise. -/
def raiseInto (queue : List Notice) (overflow : Bool) (n : Notice) : List Notice × Bool :=
  if queue.any (sameKey n) then (queue.map fun old => if sameKey n old then coalesce old n else old, overflow)
  else if queue.length < Config.noticeLimit then (queue ++ [n], overflow)
  else (queue, true)

/-- A notice is raised. -/
def State.raise (s : State) (n : Notice) : State :=
  { s with link := { s.link with
      notices := (raiseInto s.link.notices s.link.overflow n).1
      overflow := (raiseInto s.link.notices s.link.overflow n).2 } }

/-- A notice is raised where a condition holds. -/
def State.raiseIf (s : State) (b : Bool) (n : Notice) : State := if b then s.raise n else s

/-! ### Fault capture (R136) -/

/-- The capture record after an offer. -/
def captureAfter (c : Option Capture) (kind : FaultKind) (serial zone : Option Nat) (time : Nat) : Capture :=
  match c with
  | none => ⟨kind, serial, zone, time, false⟩
  | some c => { c with later := true }

/-- A fault is offered to the fault capture record. -/
def State.offerFault (s : State) (kind : FaultKind) (serial zone : Option Nat) (time : Nat) : State :=
  { s with capture := some (captureAfter s.capture kind serial zone time) }

/-! ### The close queue (R76 to R78) -/

/-- An entry joins the close queue at its tail (R77). -/
def State.enqueue (s : State) (e : QueueEntry) : State := { s with closeQueue := s.closeQueue ++ [e] }

/-- An entry leaves the close queue, wherever it stands (R78). -/
def State.dequeue (s : State) (e : QueueEntry) : State :=
  { s with closeQueue := s.closeQueue.filter fun x => decide (x ≠ e) }

/-! ### Serving a request (R175, R176) -/

/-- What an owner answers: the state its work left, the reply code and the body. -/
structure Answer where
  state : State
  code : ReplyCode
  body : List Byte

/-- A refusal with an empty body, which changes nothing (R176). -/
def refuse (s : State) (code : ReplyCode) : Answer := ⟨s, code, []⟩

/-- OK with a body. -/
def okWith (s : State) (body : List Byte) : Answer := ⟨s, .ok, body⟩

/-- BAD_FIELD, with the number of the failing field (R175). -/
def badField (s : State) (field : Nat) : Answer := ⟨s, .badField, putNat 1 field⟩

/-- The owner's work on the fields of a payload; no fields is BAD_LENGTH (R176 step 2). -/
def withFields {α : Type} (fields : Option α) (s : State) (owner : α → Answer) : Answer :=
  match fields with
  | some r => owner r
  | none => refuse s .badLength

/-- The part takes requests and engine events: it is ready (R184) and no RESTART is waiting to take effect (R183). -/
def State.running (s : State) : Bool := decide (s.link.power = .ready) && decide (s.link.restart = none)

/-- A frame can be taken: it is at the head of the intake buffer, or the buffer is empty and it completed just now
(R175; log 2). -/
def State.canTake (s : State) (f : Frame) : Bool :=
  s.running && (s.link.intake.isEmpty || decide (s.link.intake.head? = some f))

/-- The frame taken leaves the intake buffer (R175). -/
def State.popIntake (s : State) : State :=
  { s with link := { s.link with intake := s.link.intake.tail } }

/-- The reply is built from the state as the request left it, and building it clears the overrun marker (R174, R175). -/
def sendReply (kind tag : Byte) (a : Answer) : State :=
  { a.state with link := { a.state.link with
      overrun := false
      reply := some ⟨kind + 0x80, tag, a.code, a.state.link.flagsByte, a.body⟩ } }

/-- A request is taken, handed to its owner, and answered (R175). A request that cannot be taken now is not taken: nothing
changes (log 2, log 3). -/
def serve (kind tag : Byte) (payload : List Byte) (owner : List Byte → State → Answer) (s : State) :
    Host.Outcome State Fault Refusal :=
  if s.canTake ⟨kind, tag, payload⟩ then .next (sendReply kind tag (owner payload s.popIntake)) else .next s

end Sys2Proof.Machine
end

