-- ==== Sys2Proof/Machine/History.lean ====
section
/-! DEFINITION. What the host asks of the History Store (Chapter 10): UNFREEZE and HISTORY_READ. -/

namespace Sys2Proof.Machine

/-- R159: the frozen flag as it stood before the request, the ring's length and the unwritten count. -/
def unfreezeBody (zn : Zone) : List Byte :=
  putBool zn.frozen ++ putNat 1 zn.ring.length ++ putNat 2 zn.unwritten

/-- UNFREEZE (R159). -/
def unfreezeAnswer (z : Nat) (s : State) : Answer :=
  if !zoneOk z then badField s 1
  else okWith (s.updZone z fun zn => { zn with frozen := false }) (unfreezeBody (s.zone z))

def execUnfreeze (tag : Byte) (payload : List Byte) (s : State) : Host.Outcome State Fault Refusal :=
  serve 0x39 tag payload (fun p s => withFields (parseNumber 1 p) s fun z => unfreezeAnswer z s) s

/-- R160: HISTORY_READ's fields against their ranges. -/
def historyFault (r : HistoryReadReq) : Option Nat :=
  if !zoneOk r.zone then some 1
  else if 15 < r.first then some 2
  else if !(1 ≤ r.count && r.count ≤ 8) then some 3
  else none

/-- R160: the records a HISTORY_READ returns. -/
def historyRecords (zn : Zone) (r : HistoryReadReq) : List NightRecord := (zn.ring.drop r.first).take r.count

/-- R160: the body of HISTORY_READ (log 12: the records stand without a count of their own). -/
def historyBody (zn : Zone) (r : HistoryReadReq) : List Byte :=
  putNat 1 zn.ring.length ++ putBool zn.frozen ++ putNat 2 zn.unwritten ++ (historyRecords zn r).flatMap putNightRecord

/-- HISTORY_READ (R160). -/
def historyReadAnswer (r : HistoryReadReq) (s : State) : Answer :=
  match historyFault r with
  | some field => badField s field
  | none =>
    if (s.zone r.zone).ring.length ≤ r.first then refuse s .noNight
    else okWith s (historyBody (s.zone r.zone) r)

def execHistoryRead (tag : Byte) (payload : List Byte) (s : State) : Host.Outcome State Fault Refusal :=
  serve 0x38 tag payload (fun p s => withFields (parseHistoryRead p) s fun r => historyReadAnswer r s) s

end Sys2Proof.Machine
end

