-- ==== Sys2Proof/Machine/Apportion.lean ====
section
/-! DEFINITION. The Apportionment Unit (Chapter 4): dividing an interval among slots, cover runs and masks, dropped
portions, and a zone's coverage. -/

namespace Sys2Proof.Machine

/-! ### The two sides of a meter -/

/-- The zone on a side. -/
def Meter.zoneOn (m : Meter) : Side → Nat
  | .fromSide => m.fromZone
  | .toSide => m.toZone

/-- The cover record of a side. -/
def Meter.coverOn (m : Meter) : Side → Option Cover
  | .fromSide => m.fromCover
  | .toSide => m.toCover

/-- The cover record of a side, where there is one, changed by `f`. -/
def Meter.updCover (m : Meter) (side : Side) (f : Cover → Cover) : Meter :=
  match side with
  | .fromSide => { m with fromCover := m.fromCover.map f }
  | .toSide => { m with toCover := m.toCover.map f }

/-- R4: a side with a non-zero zone has an empty cover record, a side with zone 0 has none. -/
def freshCover (zone : Nat) : Option Cover := if zone = 0 then none else some Cover.empty

/-- R4, R17: both cover records rebuilt. -/
def Meter.rebuildCovers (m : Meter) : Meter :=
  { m with fromCover := freshCover m.fromZone, toCover := freshCover m.toZone }

/-! ### Dividing an interval (R60, R61) -/

/-- R32: an accepted interval; a ONE_WAY meter's reverse volume is 0. -/
structure Interval where
  channel : Nat
  t0 : Nat
  t1 : Nat
  forward : Nat
  reverse : Nat
  deriving DecidableEq, Repr

/-- c(x): the time from t0 to x, clipped to the interval (R60). -/
def clipTime (t0 t1 x : Nat) : Nat := min x t1 - t0

/-- F(x) = floor(volume × c(x) / T), the cumulative share (R60). -/
def cumShare (volume t0 t1 x : Nat) : Nat := volume * clipTime t0 t1 x / (t1 - t0)

/-- The start of slot `j` of a window (R41). -/
def slotStart (ws j : Nat) : Nat := ws + slotSeconds * j

/-- The end of slot `j` of a window (R41). -/
def slotEnd (ws j : Nat) : Nat := ws + slotSeconds * (j + 1)

/-- Slot `j`'s portion of one stream: F(e_j) − F(s_j) (R60). -/
def portion (volume t0 t1 ws j : Nat) : Nat :=
  cumShare volume t0 t1 (slotEnd ws j) - cumShare volume t0 t1 (slotStart ws j)

/-- Slot `j`'s net portion: the forward portion less the reverse portion (R61). -/
def netPortion (iv : Interval) (ws j : Nat) : Int :=
  (portion iv.forward iv.t0 iv.t1 ws j : Int) - (portion iv.reverse iv.t0 iv.t1 ws j : Int)

/-- What a side's zone gains from a net portion: the to side gains it, the from side loses it (R61). -/
def signedFor (side : Side) (net : Int) : Int :=
  match side with
  | .fromSide => -net
  | .toSide => net

/-- The night's accumulators with the interval's net portions for a side. -/
def Night.addPortions (nt : Night) (iv : Interval) (side : Side) : Night :=
  { nt with slots := nt.slots.mapIdx fun j a => a + signedFor side (netPortion iv nt.ws j) }

/-! ### Cover runs and masks (R65, R66) -/

/-- Slot `j` lies wholly within [run start, run end] (R66). -/
def slotWithin (ws runStart runEnd j : Nat) : Bool := runStart ≤ slotStart ws j && slotEnd ws j ≤ runEnd

/-- The mask with every slot of a window set that lies wholly within a run (R66). -/
def markSlots (n ws runStart runEnd : Nat) (mask : BitVec 16) : BitVec 16 :=
  (List.range n).foldl (fun m j => if slotWithin ws runStart runEnd j then m ||| BitVec.twoPow 16 j else m) mask

/-- A cover record after an accepted interval, under its zone's current night: the run is extended whatever the night
(R65), the mask set only for an open one (R66, R68). -/
def extendCover (night : Option Night) (t0 t1 : Nat) (c : Cover) : Cover :=
  let start := c.runStart.getD t0
  { c with
    runStart := some start
    runEnd := t1
    mask := match night with
      | some nt => if nt.state.isOpen then markSlots nt.length nt.ws start t1 c.mask else c.mask
      | none => c.mask }

/-- R67: to end a run, the run start becomes absent; the rest stays. -/
def Cover.endRun (c : Cover) : Cover := { c with runStart := none }

/-- R69: a freed or discarded night clears the mask and the faulted flag; the run stays. -/
def Cover.clearNight (c : Cover) : Cover := { c with mask := 0, faulted := false }

/-- Every cover record of a side attached to zone `z`, changed by `f`. -/
def State.updAttachedCovers (s : State) (z : Nat) (f : Cover → Cover) : State :=
  (s.zone z).attach.foldl (fun s e => s.updMeter e.channel fun m => m.updCover e.side f) s

/-! ### One side of an interval (R59) -/

/-- The zone with the interval's portions, where its night is open (R59). -/
def Zone.takePortions (zn : Zone) (iv : Interval) (side : Side) : Zone :=
  match zn.night with
  | some nt => if nt.state.isOpen then { zn with night := some (nt.addPortions iv side) } else zn
  | none => zn

/-- The portions, run and mask of one side; a side whose zone is 0 is passed over (R59). -/
def takeSide (iv : Interval) (side : Side) (s : State) : State :=
  match s.meter? iv.channel with
  | none => s
  | some m =>
    if m.zoneOn side = 0 then s
    else
      (s.updZone (m.zoneOn side) fun zn => zn.takePortions iv side).updMeter iv.channel fun m =>
        m.updCover side (extendCover (s.zone (m.zoneOn side)).night iv.t0 iv.t1)

/-- R63: a zone drops for a span that overlaps its last closed window, or its frozen night. -/
def Zone.drops (zn : Zone) (t0 t1 : Nat) : Bool :=
  (match zn.lastClosed with
    | some w => overlaps w.ws w.we t0 t1
    | none => false) ||
  (match zn.night with
    | some nt => !nt.state.isOpen && overlaps nt.ws nt.we t0 t1
    | none => false)

/-- R63: a side drops; a side whose zone is 0 makes no test. -/
def sideDrops (s : State) (m : Meter) (t0 t1 : Nat) (side : Side) : Bool :=
  m.zoneOn side ≠ 0 && (s.zone (m.zoneOn side)).drops t0 t1

/-! ### Coverage (R70) -/

/-- The cover record of an attachment entry has mask flag `j` set. -/
def entryCovers (s : State) (j : Nat) (e : Attachment) : Bool :=
  match s.meter? e.channel with
  | some m =>
    match m.coverOn e.side with
    | some c => c.mask.getLsbD j
    | none => false
  | none => false

/-- R70: slot `j` of the zone's night is covered. -/
def slotCovered (s : State) (z j : Nat) : Bool :=
  !(s.zone z).attach.isEmpty && (s.zone z).attach.all (entryCovers s j)

/-- R70: the cover count of slot `j`. -/
def coverCount (s : State) (z j : Nat) : Nat := (s.zone z).attach.countP (entryCovers s j)

/-- R70: every slot of the zone's current night is covered. -/
def fullyCovered (s : State) (z : Nat) : Bool :=
  match (s.zone z).night with
  | some nt => (List.range nt.length).all (slotCovered s z)
  | none => false

/-- R72: the faulted flag of an attachment entry's cover record is set. -/
def entryFaulted (s : State) (e : Attachment) : Bool :=
  match s.meter? e.channel with
  | some m =>
    match m.coverOn e.side with
    | some c => c.faulted
    | none => false
  | none => false

/-! ### Queuing (R50) and the whole interval (R71) -/

/-- R50: the night becomes QUEUED with its close cause, and its zone joins the close queue. -/
def queueNight (z : Nat) (cause : CloseCause) (s : State) : State :=
  (s.updZone z fun zn =>
    { zn with night := zn.night.map fun nt => { nt with state := .queued, cause := some cause } }).enqueue (.zone z)

/-- The zone has a WAITING night. -/
def isWaiting (s : State) (z : Nat) : Bool :=
  match (s.zone z).night with
  | some nt => decide (nt.state = .waiting)
  | none => false

/-- The zones of a meter's two sides, ascending, OUTSIDE left out. -/
def sideZones (m : Meter) : List Nat :=
  (if m.fromZone < m.toZone then [m.fromZone, m.toZone]
   else if m.toZone < m.fromZone then [m.toZone, m.fromZone]
   else [m.fromZone]).filter fun z => decide (z ≠ 0)

/-- R51, R71: the zones of a meter whose WAITING nights are fully covered, ascending. -/
def completedZones (s : State) (m : Meter) : List Nat :=
  (sideZones m).filter fun z => isWaiting s z && fullyCovered s z

/-- R59 to R71: an accepted interval, taken on both sides before any night is queued. -/
def apportion (iv : Interval) (s : State) : State :=
  match s.meter? iv.channel with
  | none => s
  | some m =>
    let taken := takeSide iv .toSide (takeSide iv .fromSide s)
    (completedZones taken m).foldl (fun s z => queueNight z .complete s) taken

/-- R64: the interval dropped a portion on either side. -/
def intervalDrops (iv : Interval) (s : State) : Bool :=
  match s.meter? iv.channel with
  | none => false
  | some m => sideDrops s m iv.t0 iv.t1 .fromSide || sideDrops s m iv.t0 iv.t1 .toSide

end Sys2Proof.Machine
end

