-- ==== Sys2Proof/Machine/Directory.lean ====
section
/-! DEFINITION. The Meter Directory (Chapter 1): ADD_METER, REMOVE_METER, REPLACE_METER, ATTACH_METER and METER_READ. -/

namespace Sys2Proof.Machine

/-! ### Field checks (R1, R2, R8, R12) -/

/-- R1: serials 1 to 4,294,967,294. -/
def serialOk (n : Nat) : Bool := 1 ≤ n && n ≤ 4294967294

/-- R2: 1, 10, 100, 1,000 or 10,000 mL per count. -/
def unitOk (n : Nat) : Bool := [1, 10, 100, 1000, 10000].contains n

/-- R2: the digits field is 0, or 4 to 10. -/
def digitsInRange (n : Nat) : Bool := n = 0 || (4 ≤ n && n ≤ 10)

/-- R2: digits against kind: 4 to 10 for REGISTER (0), 0 for PULSE (1). -/
def digitsFit (kind digits : Nat) : Bool := if kind = 0 then 4 ≤ digits && digits ≤ 10 else digits = 0

/-- R2: flow against kind: TWO_WAY (1) only with REGISTER (0). -/
def flowFits (kind flow : Nat) : Bool := kind = 0 || flow = 0

/-- The maximum credible flow, 1 to 2,000,000 L/h. -/
def qmaxOk (n : Nat) : Bool := 1 ≤ n && n ≤ 2000000

/-- The kind a coded value names. -/
def kindOf (n : Nat) : MeterKind := if n = 0 then .register else .pulse

/-- The flow a coded value names. -/
def flowOf (n : Nat) : Flow := if n = 0 then .oneWay else .twoWay

/-- The digits the record holds: none for PULSE (R2). -/
def digitsOf (kind digits : Nat) : Option Nat := if kind = 0 then some digits else none

/-- The first condition of a list that fails, by its field number. -/
def firstFault : List (Nat × Bool) → Option Nat
  | [] => none
  | (field, ok) :: rest => if ok then firstFault rest else some field

/-- R8 step 1: each field against its range in field order, then flow against kind, then digits against kind (log 13). -/
def addMeterFault (r : AddMeterReq) : Option Nat :=
  firstFault
    [(1, serialOk r.serial), (2, decide (r.spec.kind ≤ 1)), (3, decide (r.spec.flow ≤ 1)), (4, unitOk r.spec.unit),
     (5, digitsInRange r.spec.digits), (6, qmaxOk r.spec.qmax),
     (3, flowFits r.spec.kind r.spec.flow), (5, digitsFit r.spec.kind r.spec.digits)]

/-! ### ADD_METER (R8) -/

/-- R1: the lowest free channel. -/
def lowestFree (s : State) : Nat :=
  ((List.range Config.channelCount).find? fun ch => (s.meter? ch).isNone).getD Config.channelCount

/-- R8: the record an ADD_METER creates. -/
def newMeter (r : AddMeterReq) : Meter where
  serial := r.serial
  kind := kindOf r.spec.kind
  flow := flowOf r.spec.flow
  unit := r.spec.unit
  digits := digitsOf r.spec.kind r.spec.digits
  qmax := r.spec.qmax
  fromZone := 0
  toZone := 0
  state := .unbased
  base := none
  lastFault := none
  fromCover := none
  toCover := none

/-- R1: a serial enters the map. -/
def State.mapSerial (s : State) (serial ch : Nat) : State :=
  { s with serials := Table.insert s.serials serial ch }

/-- R1: a serial leaves the map. -/
def State.unmapSerial (s : State) (serial : Nat) : State :=
  { s with serials := Table.erase s.serials serial }

/-- ADD_METER (R8). -/
def addMeterAnswer (r : AddMeterReq) (s : State) : Answer :=
  match addMeterFault r with
  | some field => badField s field
  | none =>
    if (s.channelOf r.serial).isSome then refuse s .alreadyPresent
    else if Config.channelCount ≤ s.meters.length then refuse s .directoryFull
    else okWith ((s.setMeter (lowestFree s) (newMeter r)).mapSerial r.serial (lowestFree s)) (putNat 2 (lowestFree s))

def execAddMeter (tag : Byte) (payload : List Byte) (s : State) : Host.Outcome State Fault Refusal :=
  serve 0x01 tag payload (fun p s => withFields (parseAddMeter p) s fun r => addMeterAnswer r s) s

/-! ### Attachment lists (R3) -/

/-- An entry put in a list in channel order. -/
def insertAttachment (e : Attachment) : List Attachment → List Attachment
  | [] => [e]
  | a :: rest => if e.channel < a.channel then e :: a :: rest else a :: insertAttachment e rest

/-- The zone's list without a channel's entry. -/
def Zone.detach (zn : Zone) (ch : Nat) : Zone :=
  { zn with attach := zn.attach.filter fun a => decide (a.channel ≠ ch) }

/-- The zone's list with an entry. -/
def Zone.attachEntry (zn : Zone) (e : Attachment) : Zone := { zn with attach := insertAttachment e zn.attach }

/-- A zone changed, where it is not OUTSIDE. -/
def State.updInside (s : State) (z : Nat) (f : Zone → Zone) : State := if z = 0 then s else s.updZone z f

/-- R10 step 1, R11: the meter's entries leave the lists of its present non-zero zones. -/
def detachMeter (ch : Nat) (m : Meter) (s : State) : State :=
  (s.updInside m.fromZone fun zn => zn.detach ch).updInside m.toZone fun zn => zn.detach ch

/-- R9 step 3, R11: a zone, where it is not OUTSIDE, has a monitor state other than STANDBY. -/
def zoneActive (s : State) (z : Nat) : Bool := decide (z ≠ 0) && decide ((s.zone z).monitor ≠ .standby)

/-! ### ATTACH_METER (R9, R10) -/

/-- R9 step 1. -/
def attachFault (r : AttachReq) : Option Nat :=
  firstFault
    [(1, serialOk r.serial), (2, decide (r.fromZone ≤ 255)), (3, decide (r.toZone ≤ 255)),
     (3, decide (r.fromZone ≠ r.toZone) || decide (r.fromZone = 0))]

/-- R10 steps 1 and 3: the lists after the meter's present entries are removed and its new ones put in. -/
def relistMeter (ch : Nat) (m : Meter) (r : AttachReq) (s : State) : State :=
  ((detachMeter ch m s).updInside r.fromZone fun zn => zn.attachEntry ⟨ch, .fromSide⟩).updInside r.toZone fun zn =>
    zn.attachEntry ⟨ch, .toSide⟩

/-- R9 step 4: a list would exceed 48 entries. -/
def attachFull (ch : Nat) (m : Meter) (r : AttachReq) (s : State) : Bool :=
  [r.fromZone, r.toZone].any fun z =>
    decide (z ≠ 0) && decide (Config.attachLimit < ((relistMeter ch m r s).zone z).attach.length)

/-- R10 steps 2 and 4: the meter's zones set and its cover records rebuilt. -/
def Meter.attachTo (m : Meter) (fromZone toZone : Nat) : Meter :=
  { m with fromZone := fromZone, toZone := toZone }.rebuildCovers

/-- ATTACH_METER (R9, R10). -/
def attachAnswer (r : AttachReq) (s : State) : Answer :=
  match attachFault r with
  | some field => badField s field
  | none =>
    match s.meterBySerial r.serial with
    | none => refuse s .unknownMeter
    | some (ch, m) =>
      if [m.fromZone, m.toZone, r.fromZone, r.toZone].any (zoneActive s) then refuse s .zoneActive
      else if attachFull ch m r s then refuse s .attachFull
      else okWith ((relistMeter ch m r s).setMeter ch (m.attachTo r.fromZone r.toZone)) []

def execAttachMeter (tag : Byte) (payload : List Byte) (s : State) : Host.Outcome State Fault Refusal :=
  serve 0x04 tag payload (fun p s => withFields (parseAttach p) s fun r => attachAnswer r s) s

/-! ### REMOVE_METER (R11) -/

/-- REMOVE_METER (R11). -/
def removeMeterAnswer (serial : Nat) (s : State) : Answer :=
  if !serialOk serial then badField s 1
  else
    match s.meterBySerial serial with
    | none => refuse s .unknownMeter
    | some (ch, m) =>
      if [m.fromZone, m.toZone].any (zoneActive s) then refuse s .zoneActive
      else okWith ((detachMeter ch m s).dropMeter ch serial) []

def execRemoveMeter (tag : Byte) (payload : List Byte) (s : State) : Host.Outcome State Fault Refusal :=
  serve 0x02 tag payload (fun p s => withFields (parseNumber 4 p) s fun serial => removeMeterAnswer serial s) s

/-! ### REPLACE_METER (R12, R13) -/

/-- R2: the register modulus, 10 to the power digits. -/
def modulusOf (digits : Nat) : Nat := 10 ^ digits

/-- R12 step 1: fields 9 to 11 against the new kind, flow and digits. -/
def forwardFits (d : MeterSpec) (v : Nat) : Bool := if d.kind = 0 then v < modulusOf d.digits else v ≤ 65535

/-- R12: the reverse index is present exactly when flow is TWO_WAY, and below the modulus. -/
def reverseFits (d : MeterSpec) (v : Option Nat) : Bool :=
  match v with
  | some i => d.flow = 1 && i < modulusOf d.digits
  | none => d.flow ≠ 1

/-- R12: the pulse sequence is present exactly when kind is PULSE, 0 to 255. -/
def sequenceFits (d : MeterSpec) (v : Option Nat) : Bool :=
  match v with
  | some q => d.kind = 1 && q ≤ 255
  | none => d.kind ≠ 1

/-- R12 step 1: the first failing field, ranges and cross-field checks together in field order (log 13). -/
def replaceFault (r : ReplaceReq) : Option Nat :=
  firstFault
    [(1, serialOk r.serial), (2, (r.newSerial.map serialOk).getD true), (3, decide (r.spec.kind ≤ 1)),
     (4, decide (r.spec.flow ≤ 1) && flowFits r.spec.kind r.spec.flow), (5, unitOk r.spec.unit),
     (6, digitsFit r.spec.kind r.spec.digits), (7, qmaxOk r.spec.qmax), (8, decide (r.time ≤ 4294967295)),
     (9, forwardFits r.spec r.forward), (10, reverseFits r.spec r.reverse), (11, sequenceFits r.spec r.sequence)]

/-- R12 step 3: a new serial held by another record. -/
def serialTaken (s : State) (r : ReplaceReq) : Bool :=
  match r.newSerial with
  | some n => decide (n ≠ r.serial) && (s.channelOf n).isSome
  | none => false

/-- R12 step 4: the base time is earlier than the meter's present base time. -/
def beforeBase (m : Meter) (time : Nat) : Bool :=
  match m.base with
  | some b => time < b.time
  | none => false

/-- R12 step 5, R23: a time later than a set clock plus the skew tolerance. -/
def inFuture (s : State) (time : Nat) : Bool :=
  match s.clock with
  | some c => c + s.settings.skew < time
  | none => false

/-- R6: the base that a reading sets, for a kind and a flow. -/
def baseFor (kind : MeterKind) (flow : Flow) (time forward : Nat) (reverse sequence : Option Nat) : Base where
  time := time
  forward := match kind with
    | .register => some forward
    | .pulse => none
  reverse := match flow with
    | .twoWay => reverse
    | .oneWay => none
  sequence := match kind with
    | .register => none
    | .pulse => sequence

/-- R13 steps 1 to 5, and the end of the meter's runs. -/
def replacedMeter (m : Meter) (r : ReplaceReq) : Meter :=
  { m with
    serial := r.newSerial.getD r.serial
    kind := kindOf r.spec.kind
    flow := flowOf r.spec.flow
    unit := r.spec.unit
    digits := digitsOf r.spec.kind r.spec.digits
    qmax := r.spec.qmax
    state := .live
    base := some (baseFor (kindOf r.spec.kind) (flowOf r.spec.flow) r.time r.forward r.reverse r.sequence)
    lastFault := none
    fromCover := m.fromCover.map Cover.endRun
    toCover := m.toCover.map Cover.endRun }

/-- REPLACE_METER (R12, R13). -/
def replaceAnswer (r : ReplaceReq) (s : State) : Answer :=
  match replaceFault r with
  | some field => badField s field
  | none =>
    match s.meterBySerial r.serial with
    | none => refuse s .unknownMeter
    | some (ch, m) =>
      if serialTaken s r then refuse s .alreadyPresent
      else if beforeBase m r.time then refuse s .outOfOrder
      else if inFuture s r.time then refuse s .futureTime
      else
        okWith (((s.unmapSerial r.serial).mapSerial (r.newSerial.getD r.serial) ch).setMeter ch (replacedMeter m r)) []

def execReplaceMeter (tag : Byte) (payload : List Byte) (s : State) : Host.Outcome State Fault Refusal :=
  serve 0x03 tag payload (fun p s => withFields (parseReplace p) s fun r => replaceAnswer r s) s

/-! ### METER_READ (R15) -/

/-- R15: the selector, and the key against the range the selector calls for. -/
def meterReadFault (r : MeterReadReq) : Option Nat :=
  firstFault
    [(1, decide (r.selector ≤ 1)), (2, if r.selector = 0 then serialOk r.key else decide (r.key < Config.channelCount))]

/-- R15: the record a METER_READ selects. -/
def meterSelected (s : State) (r : MeterReadReq) : Option (Nat × Meter) :=
  if r.selector = 0 then s.meterBySerial r.key else (s.meter? r.key).map fun m => (r.key, m)

/-- METER_READ (R15). -/
def meterReadAnswer (r : MeterReadReq) (s : State) : Answer :=
  match meterReadFault r with
  | some field => badField s field
  | none =>
    match meterSelected s r with
    | none => refuse s .unknownMeter
    | some (ch, m) => okWith s (putMeter ch m)

def execMeterRead (tag : Byte) (payload : List Byte) (s : State) : Host.Outcome State Fault Refusal :=
  serve 0x05 tag payload (fun p s => withFields (parseMeterRead p) s fun r => meterReadAnswer r s) s

end Sys2Proof.Machine
end

