-- ==== Sys2Proof/Machine/Groups.lean ====
section
/-! DEFINITION. The Group Unit (Chapter 9): counted members, the two signals, recomputation, GROUP_SET and GROUP_READ. -/

namespace Sys2Proof.Machine

/-! ### Signals (R148, R149) -/

/-- R148: a member is counted when its zone is monitored. -/
def counted (s : State) (z : Nat) : Bool := (s.zone z).monitor.monitored

/-- R148: the LEAK member value. -/
def leakMember (s : State) (z : Nat) : Bool := decide ((s.zone z).monitor = .leak)

/-- R148: the INTEGRITY member value. -/
def integMember (s : State) (z : Nat) : Bool := (s.zone z).summary

/-- R148: the counted members of a group. -/
def countedMembers (s : State) (gr : Group) : List Nat := gr.members.filter (counted s)

/-- R149: the combination of a list of member values; no counted member gives false in both modes. -/
def combine (mode : GroupMode) (values : List Bool) : Bool :=
  match mode with
  | .any => values.any id
  | .all => !values.isEmpty && values.all id

/-- R149: the LEAK value a recomputation forms. -/
def leakSignal (s : State) (gr : Group) : Bool :=
  gr.leakEnable && combine gr.leakMode ((countedMembers s gr).map (leakMember s))

/-- R149: the INTEGRITY value a recomputation forms. -/
def integSignal (s : State) (gr : Group) : Bool :=
  gr.integEnable && combine gr.integMode ((countedMembers s gr).map (integMember s))

/-- R149: a group with both its values formed again. -/
def Group.recomputed (s : State) (gr : Group) : Group :=
  { gr with leakValue := leakSignal s gr, integValue := integSignal s gr }

/-- R150: an enabled signal of the group changes by a recomputation. -/
def groupChanges (s : State) (gr : Group) : Bool :=
  (gr.leakEnable && leakSignal s gr != gr.leakValue) || (gr.integEnable && integSignal s gr != gr.integValue)

/-! ### Recomputing (R150) -/

/-- The groups a zone belongs to, ascending. -/
def groupsOf (s : State) (z : Nat) : List Nat := groupNumbers.filter fun g => (s.group g).members.contains z

/-- One group recomputed. -/
def recomputeGroup (s : State) (g : Nat) : State := s.setGroup g ((s.group g).recomputed s)

/-- R150: every group of a zone recomputed. -/
def recomputeGroups (z : Nat) (s : State) : State := (groupsOf s z).foldl recomputeGroup s

/-- R107: every group recomputed, where the states of all zones change at once. -/
def recomputeAll (s : State) : State := groupNumbers.foldl recomputeGroup s

/-- R150: the groups of a zone of which an enabled signal changes by that, ascending. -/
def changedGroups (z : Nat) (s : State) : List Nat := (groupsOf s z).filter fun g => groupChanges s (s.group g)

/-- R150: the notice of a group as it stands. -/
def groupNotice (s : State) (g : Nat) : Notice :=
  .groupChange g (s.group g).leakValue (s.group g).integValue (s.group g).leakEnable (s.group g).integEnable

/-- GROUP_CHANGE is raised for each of the groups, in order. -/
def raiseGroupChanges (gs : List Nat) (s : State) : State := gs.foldl (fun s g => s.raise (groupNotice s g)) s

/-- R150: at a command, the zone's groups are recomputed and GROUP_CHANGE raised for each that changed. -/
def refreshGroups (z : Nat) (s : State) : State := raiseGroupChanges (changedGroups z s) (recomputeGroups z s)

/-! ### GROUP_SET (R151, R152) -/

/-- A group mode's coded value. -/
def modeOf (n : Nat) : GroupMode := if n = 0 then .any else .all

/-- R151 step 1: the first of fields 1 to 6 out of its range. -/
def groupFieldFault (r : GroupSetReq) : Option Nat :=
  if !(1 ≤ r.group && r.group ≤ Config.groupCount) then some 1
  else if 1 < r.leakMode then some 2
  else if 1 < r.leakEnable then some 3
  else if 1 < r.integMode then some 4
  else if 1 < r.integEnable then some 5
  else if !groupCountOk r.count then some 6
  else none

/-- R151 step 2: the first member, from field `field` on, that is no zone or repeats an earlier one. -/
def memberFault (earlier : List Nat) (field : Nat) : List Nat → Option Nat
  | [] => none
  | z :: rest =>
    if !zoneOk z || earlier.contains z then some field else memberFault (z :: earlier) (field + 1) rest

/-- R151 step 3: the number of groups but `g` whose member lists hold a zone. -/
def otherGroupCount (s : State) (g z : Nat) : Nat :=
  groupNumbers.countP fun g' => decide (g' ≠ g) && (s.group g').members.contains z

/-- R151 step 3: a zone of the new list would belong to more than 4 groups. -/
def membershipFull (s : State) (r : GroupSetReq) : Bool :=
  r.members.any fun z => decide (4 < otherGroupCount s r.group z + 1)

/-- R152: the definition a GROUP_SET writes; the values are still the old ones. -/
def definedGroup (s : State) (r : GroupSetReq) : Group :=
  { s.group r.group with
    members := zoneNumbers.filter r.members.contains
    leakMode := modeOf r.leakMode
    leakEnable := decide (r.leakEnable = 1)
    integMode := modeOf r.integMode
    integEnable := decide (r.integEnable = 1) }

/-- R152: an accepted GROUP_SET writes the definition, recomputes the group and raises GROUP_CHANGE where an enabled
signal changed. -/
def writeGroup (r : GroupSetReq) (s : State) : State :=
  let s' := s.setGroup r.group ((definedGroup s r).recomputed s)
  s'.raiseIf (groupChanges s (definedGroup s r)) (groupNotice s' r.group)

/-- GROUP_SET (R151, R152). -/
def groupSetAnswer (r : GroupSetReq) (s : State) : Answer :=
  match groupFieldFault r with
  | some field => badField s field
  | none =>
    match memberFault [] 7 r.members with
    | some field => badField s field
    | none =>
      if membershipFull s r then refuse s .groupFull
      else
        okWith (writeGroup r s)
          (putBool ((writeGroup r s).group r.group).leakValue ++ putBool ((writeGroup r s).group r.group).integValue)

def execGroupSet (tag : Byte) (payload : List Byte) (s : State) : Host.Outcome State Fault Refusal :=
  serve 0x30 tag payload (fun p s => withFields (parseGroupSet p) s fun r => groupSetAnswer r s) s

/-! ### GROUP_READ (R153) -/

/-- R153: the values and their source: the held set's copy while one is held, the present values otherwise. The codes of the
source, 1 for the held set and 0 for the present values, are the model's choice: section 12.6 codes a source in the published
record only (log 21). -/
def groupValues (s : State) (g : Nat) : Bool × Bool × Nat :=
  match s.report with
  | some set => ((set.groups.getD (g - 1) (false, false)).1, (set.groups.getD (g - 1) (false, false)).2, 1)
  | none => ((s.group g).leakValue, (s.group g).integValue, 0)

/-- R153: the body of GROUP_READ. -/
def groupBody (s : State) (g : Nat) : List Byte :=
  let gr := s.group g
  let cs := countedMembers s gr
  putNat 1 gr.members.length ++ gr.members.flatMap (putNat 1) ++
  putNat 1 gr.leakMode.code ++ putNat 1 gr.integMode.code ++ putBool gr.leakEnable ++ putBool gr.integEnable ++
  putNat 1 cs.length ++ putNat 1 (cs.countP (leakMember s)) ++
  putNat 1 cs.length ++ putNat 1 (cs.countP (integMember s)) ++
  putBool (groupValues s g).1 ++ putBool (groupValues s g).2.1 ++ putNat 1 (groupValues s g).2.2

/-- GROUP_READ (R153). -/
def groupReadAnswer (g : Nat) (s : State) : Answer :=
  if 1 ≤ g && g ≤ Config.groupCount then okWith s (groupBody s g) else badField s 1

def execGroupRead (tag : Byte) (payload : List Byte) (s : State) : Host.Outcome State Fault Refusal :=
  serve 0x31 tag payload (fun p s => withFields (parseNumber 1 p) s fun g => groupReadAnswer g s) s

end Sys2Proof.Machine
end

