-- ==== Sys2Proof/Machine/Judgement.lean ====
section
/-! DEFINITION. Judging a night (Chapter 7): the dark count, learning, the baseline update, the hit test, the hit list
and the transitions of the monitor state. Pure functions of what a close hands them. -/

namespace Sys2Proof.Machine

/-- R108, R115, R120: a flow taken as a baseline, 0 to 20,000,000 dL/h. -/
def clampBaseline (f : Int) : Nat := (max 0 (min (Config.flowLimit : Int) f)).toNat

/-- R121: the baseline moved a fraction of the way toward the night's minimum night flow; the floor is toward minus
infinity. -/
def updateBaseline (b : Nat) (f : Int) (k : Nat) : Nat :=
  clampBaseline (b + (f - b + (2 ^ (k - 1) : Nat)) / (2 ^ k : Nat))

/-- R122: the threshold. -/
def thresholdOf (b relEighths absThreshold : Nat) : Nat := max absThreshold ((b * relEighths + 4) / 8)

/-- R122: the excess. -/
def excessOf (b : Nat) (f : Int) : Int := f - b

/-- R122: the verdict. -/
def hitOf (b : Nat) (f : Int) (relEighths absThreshold : Nat) : HitFlag :=
  if (thresholdOf b relEighths absThreshold : Int) < excessOf b f then .hit else .nonHit

/-- R123: the flag appended, and the oldest removed where the list then holds more than W flags. -/
def appendHit (list : List HitFlag) (flag : HitFlag) (w : Nat) : List HitFlag :=
  if w < (list ++ [flag]).length then (list ++ [flag]).drop 1 else list ++ [flag]

/-- R123: the number of HIT flags. -/
def hitCount (list : List HitFlag) : Nat := list.countP fun f => decide (f = .hit)

/-- What the transitions of R124 act on. -/
structure Track where
  state : MonitorState
  hits : List HitFlag
  nonHitRun : Nat
  /-- LEAK was entered at this night (R125) -/
  leakEntered : Bool
  deriving DecidableEq, Repr

/-- R124 step 1. -/
def stepSuspect (flag : HitFlag) (t : Track) : Track :=
  if t.state = .watch ∧ flag = .hit then { t with state := .suspect } else t

/-- R124 step 2. -/
def stepConfirm (w : Nat) (t : Track) : Track :=
  if (t.state = .watch ∨ t.state = .suspect) ∧ w < hitCount t.hits * 2 then
    { t with state := .leak, nonHitRun := 0, leakEntered := true }
  else t

/-- R124 step 3. -/
def stepRelax (t : Track) : Track :=
  if t.state = .suspect ∧ hitCount t.hits = 0 then { t with state := .watch } else t

/-- R124 steps 4 and 5, for a zone that was in LEAK before this night. -/
def stepClear (flag : HitFlag) (c : Nat) (t : Track) : Track :=
  if flag = .hit then { t with nonHitRun := 0 }
  else if c ≤ t.nonHitRun + 1 then { t with state := .watch, hits := [], nonHitRun := 0 }
  else { t with nonHitRun := t.nonHitRun + 1 }

/-- R123, R124: a judged night's flag taken from the state before it. -/
def trackFlag (before : MonitorState) (hits : List HitFlag) (nonHitRun : Nat) (flag : HitFlag) (w c : Nat) : Track :=
  let t : Track := ⟨before, appendHit hits flag w, nonHitRun, false⟩
  if before = .leak then stepClear flag c t else stepRelax (stepConfirm w (stepSuspect flag t))

/-! ### The dark count (R119) -/

/-- R119: the dark count after a night. -/
def darkAfter (monitor : MonitorState) (survey excluded valid : Bool) (count : Nat) : Nat :=
  if !monitor.monitored || survey then count
  else if valid then 0
  else if excluded then count
  else min 15 (count + 1)

/-! ### Stage 4 (R118 to R125) -/

/-- What stage 4's judgement gives (R125), before settlement. -/
structure Verdict where
  judge : Judgement
  monitor : MonitorState
  excess : Option Int
  hit : HitResult
  leakEntered : Bool
  deriving DecidableEq, Repr

/-- R118: the night is judgeable. -/
def judgeable (monitor : MonitorState) (survey excluded valid negative : Bool) : Bool :=
  monitor.monitored && !survey && !excluded && valid && !negative

/-- R120: a judgeable night closed in LEARNING. -/
def learnNight (j : Judgement) (f : Int) (p : Params) : Verdict :=
  let baseline := match j.baseline with
    | some b => updateBaseline b f p.weightShift
    | none => clampBaseline f
  let count := min 30 (j.learningCount + 1)
  let learned : Judgement := { j with baseline := some baseline, learningCount := count, lastMnf := some f }
  if p.learnNights ≤ count then
    ⟨{ learned with hitList := [], nonHitRun := 0 }, .watch, none, .notJudged, false⟩
  else ⟨learned, .learning, none, .notJudged, false⟩

/-- R122 to R124: a judgeable night closed in WATCH, SUSPECT or LEAK. An armed zone always has a baseline (R122); without
one it would count as 0 (log 15). -/
def judgeArmed (monitor : MonitorState) (j : Judgement) (f : Int) (p : Params) : Verdict :=
  let b := j.baseline.getD 0
  let flag := hitOf b f p.relEighths p.absThreshold
  let t := trackFlag monitor j.hitList j.nonHitRun flag p.confirmWindow p.clearRun
  let baseline := if monitor = .watch ∧ flag = .nonHit then some (updateBaseline b f p.weightShift) else j.baseline
  ⟨{ j with
      baseline := baseline
      hitList := t.hits
      nonHitRun := t.nonHitRun
      leakHeld := j.leakHeld || t.leakEntered
      lastMnf := some f },
    t.state, some (excessOf b f), .judged flag, t.leakEntered⟩

/-- R118: stage 4 takes the night into learning or judgement, or leaves the judgement state as it was. -/
def judgeNight (monitor : MonitorState) (j : Judgement) (survey excluded valid negative : Bool) (mnf : Option Int)
    (p : Params) : Verdict :=
  match mnf with
  | none => ⟨j, monitor, none, .notJudged, false⟩
  | some f =>
    if judgeable monitor survey excluded valid negative then
      if monitor = .learning then learnNight j f p else judgeArmed monitor j f p
    else ⟨j, monitor, none, .notJudged, false⟩

end Sys2Proof.Machine
end

