-- ==== Sys2Proof/Machine/NightFlow.lean ====
section
/-! DEFINITION. The night-flow arithmetic (Chapter 6): runs, validity, the minimum night flow, the conditions, the
leakage estimate and the slot profile. -/

namespace Sys2Proof.Machine

/-- A night as the arithmetic sees it: each slot's volume where it is covered, and nothing where it is missing (R95). -/
abbrev SlotRow := List (Option Int)

/-- R95: the number of covered slots. -/
def coveredCount (row : SlotRow) : Nat := row.countP (·.isSome)

/-- R95: the number of missing slots. -/
def missingCount (row : SlotRow) : Nat := row.countP (·.isNone)

/-- R96: the sum of a block of slots, where every one is covered. -/
def runSum : SlotRow → Option Int
  | [] => some 0
  | none :: _ => none
  | some v :: rest => (runSum rest).map (v + ·)

/-- R96: the run sums of the qualifying runs, in window order. -/
def runSums (span : Nat) (row : SlotRow) : List Int :=
  (List.range (row.length - span + 1)).filterMap fun i => runSum ((row.drop i).take span)

/-- R98: the least of some sums. -/
def leastSum : List Int → Option Int
  | [] => none
  | a :: rest =>
    match leastSum rest with
    | some b => some (min a b)
    | none => some a

/-- R99: division by a positive number, rounded to nearest with halves away from zero. -/
def roundAway (a : Int) (d : Nat) : Int :=
  if 0 ≤ a then (2 * a + d) / (2 * d : Nat) else -((2 * -a + d) / (2 * d : Nat))

/-- R99: the rounded minimum night flow, in dL/h, before the clamp. -/
def rawFlow (sum : Int) (span : Nat) : Int := roundAway sum (25 * span)

/-- R100: the clamp of the minimum night flow. -/
def clampFlow (f : Int) : Int := max (-(Config.flowLimit : Int)) (min (Config.flowLimit : Int) f)

/-- R97 to R100: what the runs of a night give. -/
structure RunMin where
  valid : Bool
  mnf : Option Int
  saturated : Bool
  deriving DecidableEq, Repr

/-- R97 to R100, from the slot row, the smoothing span and the miss limit. -/
def runMin (row : SlotRow) (span missLimit : Nat) : RunMin :=
  match leastSum (runSums span row) with
  | none => ⟨false, none, false⟩
  | some sum =>
    ⟨missingCount row ≤ missLimit, some (clampFlow (rawFlow sum span)),
      decide (clampFlow (rawFlow sum span) ≠ rawFlow sum span)⟩

/-- R101: the NEGATIVE condition. -/
def isNegative (mnf : Option Int) (tolerance : Nat) : Bool :=
  match mnf with
  | some f => decide (f < -(tolerance : Int))
  | none => false

/-- R102: the leakage estimate. -/
def estimateOf (mnf : Option Int) (allowance : Nat) : Option Nat := mnf.map fun (f : Int) => (f - (allowance : Int)).toNat

/-- R82, R103: what stages 1 and 2 hand on. -/
structure Figures where
  run : RunMin
  negative : Bool
  estimate : Option Nat
  covered : Nat
  missing : Nat
  /-- the METER condition of stage 1 (R82) -/
  meter : Bool
  profile : Profile
  deriving DecidableEq, Repr

/-- R72, R95: the row of a zone's frozen night. -/
def slotRow (s : State) (z : Nat) (nt : Night) : SlotRow :=
  (List.range nt.length).map fun j => if slotCovered s z j then some (nt.slots.getD j 0) else none

/-- R104: the slot profile of a zone's frozen night. -/
def profileOf (s : State) (z : Nat) (nt : Night) : Profile where
  label := nt.label
  attachCount := (s.zone z).attach.length
  slots := (List.range nt.length).map fun j =>
    ⟨if slotCovered s z j then some (nt.slots.getD j 0) else none, coverCount s z j⟩

/-- R94: stages 1 and 2 of a completion. -/
def figuresOf (s : State) (z : Nat) (nt : Night) (p : Params) : Figures :=
  let row := slotRow s z nt
  let run := runMin row nt.span nt.missLimit
  { run := run
    negative := isNegative run.mnf p.negTolerance
    estimate := estimateOf run.mnf p.allowance
    covered := coveredCount row
    missing := missingCount row
    meter := (s.zone z).attach.any (entryFaulted s)
    profile := profileOf s z nt }

end Sys2Proof.Machine
end

