-- ==== Sys2Proof/Machine/Scheduler.lean ====
section
/-! DEFINITION. The Night Scheduler (Chapter 3): pending copies, the choice of a window, a night's creation, discard and
transitions, and CLOCK_MARK, FORCE_CLOSE and EXCLUDE_NIGHT. -/

namespace Sys2Proof.Machine

/-! ### Pending copies (R44) -/

/-- R44: every pending copy is written to its setting and removed. -/
def Zone.applyStaged (zn : Zone) : Zone :=
  { zn with
    geometry :=
      { startSlot := zn.staged.startSlot.getD zn.geometry.startSlot
        length := zn.staged.length.getD zn.geometry.length
        holdOpen := zn.staged.holdOpen.getD zn.geometry.holdOpen
        span := zn.staged.span.getD zn.geometry.span
        missLimit := zn.staged.missLimit.getD zn.geometry.missLimit }
    staged := Staged.none }

/-- R44, R107: the zone enters STANDBY, which applies its pending copies. -/
def Zone.enterStandby (zn : Zone) : Zone := { zn.applyStaged with monitor := .standby }

/-! ### Choosing a window (R41, R47) -/

/-- R47: the least window start that a candidate may have: not before the end of the last closed window, and late enough
for the window to end after the clock. -/
def earliestStart (n clock : Nat) (lastClosed : Option Window) : Nat :=
  max ((lastClosed.map (·.we)).getD 0) (clock + 1 - slotSeconds * n)

/-- R41, R47: the first candidate start at or after `lower`, for window start slot `s` under offset `o`. -/
def firstCandidate (s : Nat) (o : Int) (lower : Nat) : Nat :=
  lower + (((slotSeconds * s : Nat) - o - lower) % daySeconds).toNat

/-- R47: the start of the chosen window. -/
def chooseStart (g : Geometry) (o : Int) (clock : Nat) (lastClosed : Option Window) : Nat :=
  firstCandidate g.startSlot o (earliestStart g.length clock lastClosed)

/-- R41: the label of a window that starts at `ws`: its local day number. -/
def nightLabel (ws : Nat) (o : Int) : Int := (ws + o) / daySeconds

/-- R48: a new night on the window that starts at `ws`. -/
def newNight (g : Geometry) (o : Int) (ws : Nat) (survey : Bool) : Night where
  label := nightLabel ws o
  ws := ws
  we := ws + slotSeconds * g.length
  deadline := ws + slotSeconds * g.length + slotSeconds * g.holdOpen
  state := .pending
  cause := none
  excluded := false
  survey := survey
  length := g.length
  span := g.span
  missLimit := g.missLimit
  holdOpen := g.holdOpen
  slots := List.replicate g.length 0

/-- R47, R48: the zone with its pending copies applied and a new night. -/
def Zone.withNewNight (zn : Zone) (o : Int) (clock : Nat) (survey : Bool) : Zone :=
  let zn := zn.applyStaged
  { zn with night := some (newNight zn.geometry o (chooseStart zn.geometry o clock zn.lastClosed) survey) }

/-- R47, R48, R69: a night is created for zone `z`, and the cover records of its attached sides are emptied. -/
def createNight (z : Nat) (survey : Bool) (s : State) : State :=
  (s.updZone z fun zn => zn.withNewNight s.settings.offset s.now survey).updAttachedCovers z fun _ => Cover.empty

/-- R55, R69: the zone's current night is freed, and the masks and faulted flags of its attached sides are cleared. -/
def freeNight (z : Nat) (s : State) : State :=
  (s.updZone z fun zn => { zn with night := none }).updAttachedCovers z Cover.clearNight

/-- R55, R78: the zone's night is discarded; a QUEUED night's entry leaves the close queue. -/
def discardNight (z : Nat) (s : State) : State := (freeNight z s).dequeue (.zone z)

/-! ### Clock marks (R39, R49) -/

/-- R49 step 1: a PENDING night whose window has ended becomes WAITING. -/
def Night.endWindow (nt : Night) (clock : Nat) : Night :=
  if nt.state = .pending ∧ nt.we ≤ clock then { nt with state := .waiting } else nt

/-- A WAITING night's deadline is at or before the clock. -/
def deadlineReached (s : State) (z clock : Nat) : Bool :=
  match (s.zone z).night with
  | some nt => nt.deadline ≤ clock
  | none => false

/-- R49 step 1: the zone's window has ended at this mark. -/
def windowEnds (s : State) (z clock : Nat) : Bool :=
  match (s.zone z).night with
  | some nt => decide (nt.state = .pending) && nt.we ≤ clock
  | none => false

/-- R49: one zone against the clock. A night that this mark makes WAITING is queued where it is fully covered; a WAITING
night past its deadline is queued, COMPLETE where it is fully covered and DEADLINE otherwise. -/
def markZone (clock : Nat) (s : State) (z : Nat) : State :=
  let s' := s.updZone z fun zn => { zn with night := zn.night.map fun nt => nt.endWindow clock }
  if isWaiting s' z then
    if fullyCovered s' z && (windowEnds s z clock || deadlineReached s' z clock) then queueNight z .complete s'
    else if deadlineReached s' z clock then queueNight z .deadline s'
    else s'
  else s'

/-- R39, R49: the night transitions of every zone, ascending. -/
def nightTransitions (clock : Nat) (s : State) : State := zoneNumbers.foldl (markZone clock) s

/-! ### The stale check (R16) -/

/-- R16: a LIVE meter whose base is older than the stale limit. -/
def Meter.lapsed (m : Meter) (staleLimit clock : Nat) : Bool :=
  match m.state, m.base with
  | .live, some b => b.time + staleLimit * 3600 < clock
  | _, _ => false

/-- Insertion of a channel by its rank. -/
def insertByRank (rank : Nat → Nat) (ch : Nat) : List Nat → List Nat
  | [] => [ch]
  | c :: rest => if rank ch ≤ rank c then ch :: c :: rest else c :: insertByRank rank ch rest

/-- The channels of the lapsed meters, in the free order of the mark (log 6). -/
def lapsedChannels (s : State) (clock : Nat) : List Nat :=
  ((s.meters.filter fun e => e.2.lapsed s.settings.staleLimit clock).map (·.1)).foldr
    (insertByRank (Config.staleRank s.freeCount)) []

/-- R16: a meter becomes STALE and METER_STALE is raised. -/
def makeStale (s : State) (ch : Nat) : State :=
  match s.meter? ch with
  | some m =>
    (s.setMeter ch { m with state := .stale }).raise
      (.meterStale m.serial ch ((m.base.map (·.time)).getD 0))
  | none => s

/-- R16: the stale check of one mark. -/
def staleCheck (clock : Nat) (s : State) : State :=
  { (lapsedChannels s clock).foldl makeStale s with freeCount := s.freeCount + 1 }

/-! ### CLOCK_MARK -/

/-- R39: a mark is refused when the clock is set and later than the mark. -/
def markIsBack (s : State) (time : Nat) : Bool :=
  match s.clock with
  | some c => time < c
  | none => false

/-- R39: what a CLOCK_MARK that is not refused does. -/
def takeMark (time : Nat) (s : State) : State :=
  staleCheck time (nightTransitions time { s with clock := some time })

/-- R39: the clock after the request and the count of nights this mark queued. -/
def clockBody (clock queued : Nat) : List Byte := putNat 4 clock ++ putNat 1 queued

/-- CLOCK_MARK (R39). -/
def clockMarkAnswer (time : Nat) (s : State) : Answer :=
  if markIsBack s time then ⟨s, .clockBack, clockBody s.now 0⟩
  else okWith (takeMark time s) (clockBody time ((takeMark time s).closeQueue.length - s.closeQueue.length))

def execClockMark (tag : Byte) (payload : List Byte) (s : State) : Host.Outcome State Fault Refusal :=
  serve 0x18 tag payload (fun p s => withFields (parseNumber 4 p) s fun time => clockMarkAnswer time s) s

/-! ### FORCE_CLOSE and EXCLUDE_NIGHT -/

/-- FORCE_CLOSE (R52). -/
def forceCloseAnswer (z : Nat) (s : State) : Answer :=
  if !zoneOk z then badField s 1
  else match (s.zone z).night with
    | none => refuse s .notActive
    | some nt =>
      match nt.state with
      | .pending => refuse s .notEnded
      | .waiting => okWith (queueNight z .forced s) []
      | .queued => refuse s .tooLate
      | .closing => refuse s .tooLate

def execForceClose (tag : Byte) (payload : List Byte) (s : State) : Host.Outcome State Fault Refusal :=
  serve 0x25 tag payload (fun p s => withFields (parseNumber 1 p) s fun z => forceCloseAnswer z s) s

/-- EXCLUDE_NIGHT (R114). -/
def excludeNightAnswer (z : Nat) (s : State) : Answer :=
  if !zoneOk z then badField s 1
  else match (s.zone z).night with
    | none => refuse s .notActive
    | some nt =>
      if nt.state.isOpen then okWith (s.updZone z fun zn => { zn with night := some { nt with excluded := true } }) []
      else refuse s .tooLate

def execExcludeNight (tag : Byte) (payload : List Byte) (s : State) : Host.Outcome State Fault Refusal :=
  serve 0x24 tag payload (fun p s => withFields (parseNumber 1 p) s fun z => excludeNightAnswer z s) s

end Sys2Proof.Machine
end

