-- ==== Sys2Proof/Machine/Closing.lean ====
section
/-! DEFINITION. The stages of a zone close's completion (Chapter 5, R81): causes and capture (Chapter 8), judgement and
settlement (Chapter 7), publication (Chapter 8), history (Chapter 10), groups (Chapter 9), notices (Chapter 12), freeing
and the next night (Chapter 3). -/

namespace Sys2Proof.Machine

/-! ### Stage 3: dark count, causes, summary, capture (R83, R119, R130 to R133, R136) -/

/-- R131: the live values of a closing night. -/
def liveCauses (f : Figures) (darkCount darkLimit : Nat) : CauseSet where
  coverage := !f.run.valid
  negative := f.negative
  meter := f.meter
  dark := darkLimit ≤ darkCount
  saturated := f.run.saturated

/-- R83: the zone after stage 3. -/
def Zone.evaluate (zn : Zone) (nt : Night) (p : Params) (f : Figures) : Zone :=
  let dark := darkAfter zn.monitor nt.survey nt.excluded f.run.valid zn.judge.darkCount
  let live := liveCauses f dark p.darkLimit
  let held := zn.held.union live
  { zn with
    judge := { zn.judge with darkCount := dark }
    live := live
    held := held
    summary := summaryOf p.routeMask held }

/-- R132: the causes newly held at stage 3. -/
def newlyHeld (before after : Zone) : CauseSet := after.held.diff before.held

/-- R136: each newly held cause is offered to the capture record, in cause order. -/
def offerCauses (z : Nat) (causes : CauseSet) (s : State) : State :=
  causes.toList.foldl (fun s c => s.offerFault (.zoneCause c) none (some z) s.now) s

/-- Stage 3 of a completion. -/
def stageCauses (c : CloseItem) (f : Figures) (s : State) : State :=
  let after := (s.zone c.zone).evaluate c.night c.captured f
  offerCauses c.zone (newlyHeld (s.zone c.zone) after) (s.setZone c.zone after)

/-! ### Stage 4: judgement and settlement (R84, R118 to R125) -/

/-- R118: the verdict on the night, from the zone as stage 3 left it. -/
def verdictOf (zn : Zone) (c : CloseItem) (f : Figures) : Verdict :=
  judgeNight zn.monitor zn.judge c.night.survey c.night.excluded f.run.valid f.negative f.run.mnf c.captured

/-- R84: a survey night or a pending stop settles the zone to STANDBY. -/
def Zone.settle (zn : Zone) (v : Verdict) (survey : Bool) : Zone :=
  let judged := { zn with judge := v.judge, monitor := v.monitor }
  if survey || zn.stopPending then { judged.enterStandby with stopPending := false } else judged

/-- Stage 4 of a completion. -/
def stageJudge (c : CloseItem) (v : Verdict) (s : State) : State :=
  s.updZone c.zone fun zn => zn.settle v c.night.survey

/-! ### Stage 5: publication (R139 to R141) -/

/-- R140: the publish hold acts. -/
def publishHeld (zn : Zone) (p : Params) : Bool := p.publishHold && zn.summary

/-- R139, R140: the record built from the night just closed. -/
def publishedRecord (zn : Zone) (c : CloseItem) (f : Figures) (v : Verdict) : Published :=
  let hold := publishHeld zn c.captured
  { label := c.night.label
    cause := c.night.cause
    valid := f.run.valid
    excluded := c.night.excluded
    survey := c.night.survey
    held := hold
    saturated := f.run.saturated
    mnf := if hold then zn.published.bind (·.mnf) else f.run.mnf
    estimate := if hold then zn.published.bind (·.estimate) else f.estimate
    baseline := v.judge.baseline
    excess := v.excess
    hit := v.hit
    covered := f.covered
    missing := f.missing
    live := zn.live
    stateAfter := zn.monitor }

/-- Stage 5 of a completion: the published record and the slot profile in the live set. -/
def stagePublish (c : CloseItem) (f : Figures) (v : Verdict) (s : State) : State :=
  s.updZone c.zone fun zn =>
    { zn with published := some (publishedRecord zn c f v), profile := some f.profile }

/-! ### Stage 6: history (R156 to R158) -/

/-- R156: the night record built from the closed night; it holds the true figures. -/
def nightRecord (zn : Zone) (c : CloseItem) (f : Figures) (v : Verdict) (closeTime : Nat) : NightRecord where
  label := c.night.label
  ws := c.night.ws
  cause := c.night.cause
  closeTime := closeTime
  valid := f.run.valid
  excluded := c.night.excluded
  survey := c.night.survey
  saturated := f.run.saturated
  pubHeld := publishHeld zn c.captured
  mnf := f.run.mnf
  estimate := f.estimate
  baseline := v.judge.baseline
  excess := v.excess
  hit := v.hit
  covered := f.covered
  missing := f.missing
  live := zn.live
  stateAfter := zn.monitor
  leakEntered := v.leakEntered

/-- R157, R158: the ring takes the night, or counts it as unwritten while frozen, and freezes on a leak entry. -/
def Zone.record (zn : Zone) (r : NightRecord) (freezeOnLeak : Bool) : Zone :=
  if zn.frozen then { zn with unwritten := min 65535 (zn.unwritten + 1) }
  else
    let written := { zn with ring := (r :: zn.ring).take Config.ringLimit }
    if r.leakEntered && freezeOnLeak then { written with frozen := true, unwritten := 0 } else written

/-- Stage 6 of a completion. -/
def stageHistory (c : CloseItem) (f : Figures) (v : Verdict) (s : State) : State :=
  s.updZone c.zone fun zn => zn.record (nightRecord zn c f v s.now) c.captured.freezeOnLeak

/-! ### Stage 8: notices (R86, R178) -/

/-- R178: a completion raises ZONE_STATE where the judgement's change or the settlement's change is selected. -/
def completionSelects (p : Params) (before judged after : MonitorState) : Bool :=
  changeSelected p before judged || changeSelected p judged after

/-- Stage 8 of a completion. `before` is the monitor state before stage 4, `newly` the causes stage 3 newly held and
`changed` the groups stage 7 found changed. -/
def stageNotices (c : CloseItem) (f : Figures) (v : Verdict) (before : MonitorState) (newly : CauseSet)
    (changed : List Nat) (s : State) : State :=
  let after := (s.zone c.zone).monitor
  raiseGroupChanges changed
    (((s.raiseIf c.captured.notifyClosed
        (.nightClosed c.zone c.night.label c.night.cause after f.run.valid)).raiseIf
      (completionSelects c.captured before v.monitor after) (.zoneState c.zone before after)).raiseIf
    (decide (newly ≠ CauseSet.none)) (.causeHeld c.zone newly))

/-! ### Stages 9 and 10 (R87) -/

/-- Stage 9: the night is freed and the last closed window becomes its window. -/
def stageFree (c : CloseItem) (s : State) : State :=
  (freeNight c.zone s).updZone c.zone fun zn => { zn with lastClosed := some ⟨c.night.ws, c.night.we⟩ }

/-- Stage 10: the next night, where the zone is still monitored. -/
def stageNext (c : CloseItem) (s : State) : State :=
  if (s.zone c.zone).monitor.monitored then createNight c.zone false s else s

/-! ### The completion (R81) -/

/-- R81: the completion of a zone close; a voided one only returns the engine to IDLE. -/
def completeClose (c : CloseItem) (s : State) : State :=
  if c.void then { s with engine := none }
  else
    let f := figuresOf s c.zone c.night c.captured
    let s3 := stageCauses c f s
    let v := verdictOf (s3.zone c.zone) c f
    let s6 := stageHistory c f v (stagePublish c f v (stageJudge c v s3))
    let s8 := stageNotices c f v (s.zone c.zone).monitor (newlyHeld (s.zone c.zone) (s3.zone c.zone))
      (changedGroups c.zone s6) (recomputeGroups c.zone s6)
    { stageNext c (stageFree c s8) with engine := none }

end Sys2Proof.Machine
end

