-- ==== Sys2Proof/Machine/SelfTest.lean ====
section
/-! DEFINITION. The Self-Test Unit (Chapter 11): the reference cases, the five tests, and TEST_START, TEST_CANCEL,
TEST_READ and TEST_CLEAR. -/

namespace Sys2Proof.Machine

/-- The number, from 1, of the first case of a list that does not agree. -/
def firstFailing (agree : List Bool) : Option Nat :=
  (agree.findIdx? (· == false)).map (· + 1)

/-! ### APPORTION (R165) -/

/-- A reference case of APPORTION; `windowStart` is the window's start in seconds from t0. -/
structure ApportionCase where
  forward : Nat
  reverse : Nat
  duration : Nat
  windowStart : Int
  held : List Int
  deriving DecidableEq, Repr

/-- R165: the four reference cases. -/
def apportionCases : List ApportionCase :=
  [⟨7000, 0, 2850, -300, [1473, 2211, 2210, 1106]⟩,
   ⟨5230, 0, 2600, 1300, [1810, 805]⟩,
   ⟨4500, 100, 1800, 300, [2200, 1466]⟩,
   ⟨24000000000, 0, 43200, 14400, List.replicate 16 500000000⟩]

/-- R165: every slot's net portion equals the held one. The case is laid out with t0 at 900. -/
def ApportionCase.agrees (c : ApportionCase) : Bool :=
  (List.range c.held.length).map
    (netPortion ⟨0, 900, 900 + c.duration, c.forward, c.reverse⟩ (900 + c.windowStart).toNat) = c.held

/-! ### RUNMIN (R166) -/

/-- A reference case of RUNMIN. -/
structure RunMinCase where
  row : SlotRow
  span : Nat
  missLimit : Nat
  held : RunMin
  deriving DecidableEq, Repr

/-- The complete night of case 1, in mL. -/
def runMinNight : List Int := [61200, 58900, 55300, 54100, 53800, 55000, 57600, 60400]

/-- A row with some slots missing. -/
def rowMissing (missing : List Nat) (volumes : List Int) : SlotRow :=
  volumes.mapIdx fun j v => if missing.contains j then none else some v

/-- R166: the five reference cases. -/
def runMinCases : List RunMinCase :=
  [⟨rowMissing [] runMinNight, 4, 2, ⟨true, some 2182, false⟩⟩,
   ⟨rowMissing [2] runMinNight, 4, 2, ⟨true, some 2205, false⟩⟩,
   ⟨rowMissing [1, 5] runMinNight, 4, 2, ⟨false, none, false⟩⟩,
   ⟨rowMissing [] [-1300, -2400, -2775, -1900], 2, 1, ⟨true, some (-104), false⟩⟩,
   ⟨rowMissing [] [1010000000, 1000000000, 1000500000, 1002000000], 1, 0, ⟨true, some 20000000, true⟩⟩]

/-- R166: validity, minimum night flow and SATURATED equal the held ones. -/
def RunMinCase.agrees (c : RunMinCase) : Bool := decide (runMin c.row c.span c.missLimit = c.held)

/-! ### BASELINE and JUDGE (R167) -/

/-- A reference case of BASELINE. -/
structure BaselineCase where
  baseline : Nat
  flow : Int
  weightShift : Nat
  relEighths : Nat
  absThreshold : Nat
  heldBaseline : Nat
  heldThreshold : Nat
  heldExcess : Int
  heldHit : HitFlag
  deriving DecidableEq, Repr

/-- R167: the four reference cases of BASELINE. -/
def baselineCases : List BaselineCase :=
  [⟨1950, 2182, 3, 1, 200, 1979, 244, 232, .nonHit⟩,
   ⟨1915, 1860, 3, 1, 200, 1908, 239, -55, .nonHit⟩,
   ⟨1920, 2400, 3, 1, 200, 1980, 240, 480, .hit⟩,
   ⟨100, -1000000, 1, 8, 0, 0, 100, -1000100, .nonHit⟩]

/-- R167: updated baseline, threshold, excess and hit equal the held ones. -/
def BaselineCase.agrees (c : BaselineCase) : Bool :=
  decide (updateBaseline c.baseline c.flow c.weightShift = c.heldBaseline) &&
  decide (thresholdOf c.baseline c.relEighths c.absThreshold = c.heldThreshold) &&
  decide (excessOf c.baseline c.flow = c.heldExcess) &&
  decide (hitOf c.baseline c.flow c.relEighths c.absThreshold = c.heldHit)

/-- What JUDGE compares after each flag: monitor state, hit count, non-hit run. -/
abbrev JudgeMark := MonitorState × Nat × Nat

/-- A reference case of JUDGE. -/
structure JudgeCase where
  confirmWindow : Nat
  clearRun : Nat
  flags : List HitFlag
  held : List JudgeMark
  deriving DecidableEq, Repr

/-- R167: the three reference cases of JUDGE. The hit counts and runs of cases 2 and 3, which the manual does not print,
are those its rules give (log 18). -/
def judgeCases : List JudgeCase :=
  [⟨5, 3, [.nonHit, .hit, .hit, .hit, .hit, .nonHit, .nonHit, .nonHit],
    [(.watch, 0, 0), (.suspect, 1, 0), (.suspect, 2, 0), (.leak, 3, 0), (.leak, 4, 0), (.leak, 4, 1), (.leak, 3, 2),
     (.watch, 0, 0)]⟩,
   ⟨3, 1, [.hit, .nonHit, .nonHit, .nonHit],
    [(.suspect, 1, 0), (.suspect, 1, 0), (.suspect, 1, 0), (.watch, 0, 0)]⟩,
   ⟨4, 2, [.hit, .hit, .hit], [(.suspect, 1, 0), (.suspect, 2, 0), (.leak, 3, 0)]⟩]

/-- R167: the marks a sequence of flags gives, from a state, a list and a run. -/
def judgeMarks (w c : Nat) : MonitorState → List HitFlag → Nat → List HitFlag → List JudgeMark
  | _, _, _, [] => []
  | state, hits, run, flag :: rest =>
    let t := trackFlag state hits run flag w c
    (t.state, hitCount t.hits, t.nonHitRun) :: judgeMarks w c t.state t.hits t.nonHitRun rest

/-- R167: after every flag the state, hit count and run equal the held ones, from WATCH with an empty list. -/
def JudgeCase.agrees (c : JudgeCase) : Bool :=
  decide (judgeMarks c.confirmWindow c.clearRun .watch [] 0 c.flags = c.held)

/-! ### AUDIT (R168) -/

/-- R168: the first UNBASED or STALE meter of an attachment list. -/
def auditList (s : State) (z : Nat) : List Attachment → Option AuditFinding
  | [] => none
  | e :: rest =>
    match s.meter? e.channel with
    | some m => if m.state = .live then auditList s z rest else some ⟨z, m.serial, e.channel⟩
    | none => auditList s z rest

/-- R168: a zone's finding; a STANDBY zone is not examined. -/
def auditZone (s : State) (z : Nat) : Option AuditFinding :=
  if (s.zone z).monitor = .standby then none else auditList s z (s.zone z).attach

/-- R168: the first finding over all zones, ascending. -/
def audit (s : State) : Option AuditFinding := zoneNumbers.findSome? (auditZone s)

/-! ### A run's completion (R88, R164) -/

/-- The failing case of tests 1 to 4. -/
def failingCase (test : Nat) : Option Nat :=
  match test with
  | 1 => firstFailing (apportionCases.map (·.agrees))
  | 2 => firstFailing (runMinCases.map (·.agrees))
  | 3 => firstFailing (baselineCases.map (·.agrees))
  | 4 => firstFailing (judgeCases.map (·.agrees))
  | _ => none

/-- The finding of test 5. -/
def failingMeter (test : Nat) (s : State) : Option AuditFinding := if test = 5 then audit s else none

/-- The outcome of a test. -/
def outcomeOf (test : Nat) (s : State) : TestOutcome :=
  if (failingCase test).isSome || (failingMeter test s).isSome then .fail else .pass

/-- R164: the result record of a completed run. -/
def resultOf (test : Nat) (s : State) : TestResult :=
  ⟨test, outcomeOf test s, failingCase test, failingMeter test s, s.clock⟩

/-- R88, R164: the completion of a test run. -/
def completeTest (test : Nat) (s : State) : State :=
  { s.raise (.testDone test (outcomeOf test s)) with
    test := ⟨.idle, some (resultOf test s)⟩
    engine := none }

/-! ### TEST_START, TEST_CANCEL, TEST_READ, TEST_CLEAR -/

/-- TEST_START (R163). -/
def testStartAnswer (test : Nat) (s : State) : Answer :=
  if s.test.request ≠ .idle then refuse s .busy
  else if !(1 ≤ test && test ≤ 5) then badField s 1
  else okWith ({ s with test := { s.test with request := .queued test } }.enqueue .test) []

def execTestStart (tag : Byte) (payload : List Byte) (s : State) : Host.Outcome State Fault Refusal :=
  serve 0x48 tag payload (fun p s => withFields (parseNumber 1 p) s fun test => testStartAnswer test s) s

/-- TEST_CANCEL (R169). -/
def testCancelAnswer (s : State) : Answer :=
  match s.test.request with
  | .idle => refuse s .notActive
  | .running _ => refuse s .busy
  | .queued test =>
    okWith { s.dequeue .test with test := ⟨.idle, some ⟨test, .aborted, none, none, s.clock⟩⟩ } []

def execTestCancel (tag : Byte) (payload : List Byte) (s : State) : Host.Outcome State Fault Refusal :=
  serve 0x49 tag payload (fun p s => withFields (parseEmpty p) s fun _ => testCancelAnswer s) s

/-- The test number of a request in QUEUED or RUNNING. -/
def TestRequest.number : TestRequest → Option Nat
  | .idle => none
  | .queued n => some n
  | .running n => some n

/-- The zone, serial and channel of an AUDIT's finding. -/
def putFinding (a : AuditFinding) : List Byte := putNat 1 a.zone ++ putNat 4 a.serial ++ putNat 2 a.channel

/-- R170: the result record; empty, its 17 bytes are zero (log 11). -/
def putTestResult (r : TestResult) : List Byte :=
  putNat 1 r.test ++ putNat 1 r.outcome.code ++ putOptNat 1 r.failCase ++
  putOption 7 (r.failMeter.map putFinding) ++ putOptNat 4 r.clock

/-- TEST_READ (R170). -/
def testReadAnswer (s : State) : Answer :=
  okWith s (putNat 1 s.test.request.code ++ putOptNat 1 s.test.request.number ++
    putOption 17 (s.test.result.map putTestResult))

def execTestRead (tag : Byte) (payload : List Byte) (s : State) : Host.Outcome State Fault Refusal :=
  serve 0x4A tag payload (fun p s => withFields (parseEmpty p) s fun _ => testReadAnswer s) s

/-- TEST_CLEAR (R170). -/
def testClearAnswer (s : State) : Answer := okWith { s with test := { s.test with result := none } } []

def execTestClear (tag : Byte) (payload : List Byte) (s : State) : Host.Outcome State Fault Refusal :=
  serve 0x4B tag payload (fun p s => withFields (parseEmpty p) s fun _ => testClearAnswer s) s

end Sys2Proof.Machine
end

