-- ==== Sys2Proof/Machine/Engine.lean ====
section
/-! DEFINITION. The Close Engine (Chapter 5): its starts and completions as events of their own. -/

namespace Sys2Proof.Machine

/-- R79, R80: the start of a zone close: the entry leaves the head of the queue, the night becomes CLOSING and the settings
6 to 20 are captured. -/
def startClose (z : Nat) (nt : Night) (s : State) : State :=
  { s.updZone z fun zn => { zn with night := some { nt with state := .closing } } with
    closeQueue := s.closeQueue.tail
    engine := some (.close ⟨z, { nt with state := .closing }, false, (s.zone z).params⟩) }

/-- R79, R164: the start of a test run. -/
def startTest (test : Nat) (s : State) : State :=
  { s with
    closeQueue := s.closeQueue.tail
    engine := some .testRun
    test := { s.test with request := .running test } }

/-- The zone close that can start now: the engine is IDLE and a zone entry is at the head (R79). -/
def closeReady (s : State) : Option (Nat × Night) :=
  match s.engine, s.closeQueue with
  | none, .zone z :: _ => (s.zone z).night.map fun nt => (z, nt)
  | _, _ => none

/-- The test run that can start now (R79). -/
def testReady (s : State) : Option Nat :=
  match s.engine, s.closeQueue, s.test.request with
  | none, .test :: _, .queued test => some test
  | _, _, _ => none

/-- The zone close in service. -/
def closeInService (s : State) : Option CloseItem :=
  match s.engine with
  | some (.close c) => some c
  | _ => none

/-- The test run in service. -/
def testInService (s : State) : Option Nat :=
  match s.engine, s.test.request with
  | some .testRun, .running test => some test
  | _, _ => none

/-- CLOSE_START, where a zone entry is at the head of an IDLE engine's queue; otherwise it does not occur (log 3). -/
def execCloseStart (s : State) : Host.Outcome State Fault Refusal :=
  if s.running then
    match closeReady s with
    | some (z, nt) => .next (startClose z nt s)
    | none => .next s
  else .next s

/-- TEST_RUN_START, where the test entry is at the head of an IDLE engine's queue; otherwise it does not occur (log 3). -/
def execTestRunStart (s : State) : Host.Outcome State Fault Refusal :=
  if s.running then
    match testReady s with
    | some test => .next (startTest test s)
    | none => .next s
  else .next s

/-- CLOSE_COMPLETION, where a zone close is in service; otherwise it does not occur (log 3). -/
def execCloseCompletion (s : State) : Host.Outcome State Fault Refusal :=
  if s.running then
    match closeInService s with
    | some c => .next (completeClose c s)
    | none => .next s
  else .next s

/-- TEST_RUN_COMPLETION, where a test run is in service; otherwise it does not occur (log 3). -/
def execTestRunCompletion (s : State) : Host.Outcome State Fault Refusal :=
  if s.running then
    match testInService s with
    | some test => .next (completeTest test s)
    | none => .next s
  else .next s

/-- The next event of the engine, whichever it is: a completion of the item in service, else a start (R75, R79). -/
def engineEvent (s : State) : State :=
  match closeInService s, testInService s, closeReady s, testReady s with
  | some c, _, _, _ => completeClose c s
  | none, some test, _, _ => completeTest test s
  | none, none, some (z, nt), _ => startClose z nt s
  | none, none, none, some test => startTest test s
  | none, none, none, none => s

/-- Several engine events, one after another. -/
def engineEvents : Nat → State → State
  | 0, s => s
  | k + 1, s => engineEvents k (engineEvent s)

end Sys2Proof.Machine
end

