-- ==== Sys2Proof/Machine/Readings.lean ====
section
/-! DEFINITION. The Reading Intake (Chapter 2): the checks of a reading record, the classification of its interval, gaps,
READING and READING_BATCH. -/

namespace Sys2Proof.Machine

/-- What one reading record draws: the state it leaves, its code and its detail byte (R19). -/
structure RecordAnswer where
  state : State
  code : ReplyCode
  detail : Nat

/-! ### Field checks and the base (R22, R24, R26) -/

/-- R2: a meter's register modulus. -/
def Meter.modulus (m : Meter) : Nat := modulusOf (m.digits.getD 0)

/-- R22: the first of fields 3 to 5 that fails. -/
def recordFault (m : Meter) (r : ReadingRecord) : Option Nat :=
  firstFault
    [(3, match m.kind with
      | .register => r.forward < m.modulus
      | .pulse => r.forward ≤ 65535),
     (4, match m.flow, r.reverse with
      | .oneWay, none => true
      | .twoWay, some v => v < m.modulus
      | _, _ => false),
     (5, match m.kind, r.sequence with
      | .register, none => true
      | .pulse, some _ => true
      | _, _ => false)]

/-- R24: the base a reading sets. -/
def Meter.baseFrom (m : Meter) (r : ReadingRecord) : Base :=
  baseFor m.kind m.flow r.time r.forward r.reverse r.sequence

/-- R26: DUPLICATE or CONFLICT with the base, or neither. -/
def repeatOf (m : Meter) (b : Base) (r : ReadingRecord) : Option ReplyCode :=
  match m.kind with
  | .register =>
    if r.time ≠ b.time then none
    else if some r.forward = b.forward ∧ (m.flow = .oneWay ∨ r.reverse = b.reverse) then some .duplicate
    else some .conflict
  | .pulse =>
    if r.time = b.time ∧ r.sequence = b.sequence then some .duplicate
    else if r.time = b.time ∨ r.sequence = b.sequence then some .conflict
    else none

/-! ### Classification (R27 to R31) -/

/-- R30: one register stream: its count difference, and whether it wrapped. -/
def registerStream (v0 v1 modulus : Nat) : Nat × Bool :=
  if v0 ≤ v1 then (v1 - v0, false) else (v1 + modulus - v0, true)

/-- R31: a volume that exceeds the maximum credible flow over T seconds. -/
def incredible (volume qmax t : Nat) : Bool := qmax * t * 5 < volume * 18

/-- R31: the fault of an incredible stream: REGRESSION where it wrapped, OVERRANGE where it is plain. -/
def streamFault (volume : Nat) (wrapped : Bool) (qmax t : Nat) : Option MeterFault :=
  if incredible volume qmax t then some (if wrapped then .regression else .overrange) else none

/-- R29: the sequence that follows the base's. -/
def nextSequence (b : Base) : Nat := (b.sequence.getD 0 + 1) % 256

/-- What R27 makes of an interval: a gap with a fault, or an accepted interval with its two volumes. -/
inductive Classified where
  | gap (f : MeterFault)
  | accepted (forward reverse : Nat)
  deriving DecidableEq, Repr

/-- R30: a REGISTER meter's forward stream. -/
def forwardStream (m : Meter) (b : Base) (r : ReadingRecord) : Nat × Bool :=
  registerStream (b.forward.getD 0) r.forward m.modulus

/-- R30: a REGISTER meter's reverse stream; a ONE_WAY meter has none, which reads as no volume. -/
def reverseStream (m : Meter) (b : Base) (r : ReadingRecord) : Nat × Bool :=
  match m.flow with
  | .oneWay => (0, false)
  | .twoWay => registerStream (b.reverse.getD 0) (r.reverse.getD 0) m.modulus

/-- R31: the forward stream is tested first and the reverse stream second. -/
def classifyRegister (m : Meter) (b : Base) (r : ReadingRecord) : Classified :=
  let t := r.time - b.time
  let f := forwardStream m b r
  let v := reverseStream m b r
  match streamFault (f.1 * m.unit) f.2 m.qmax t, streamFault (v.1 * m.unit) v.2 m.qmax t with
  | some fault, _ => .gap fault
  | none, some fault => .gap fault
  | none, none => .accepted (f.1 * m.unit) (v.1 * m.unit)

/-- R29: a PULSE meter's interval. -/
def classifyPulse (m : Meter) (b : Base) (r : ReadingRecord) : Classified :=
  if r.sequence ≠ some (nextSequence b) then .gap .lostReports
  else
    match streamFault (r.forward * m.unit) false m.qmax (r.time - b.time) with
    | some fault => .gap fault
    | none => .accepted (r.forward * m.unit) 0

/-- R27, R28: the first test that finds a fault makes the interval a gap. -/
def classify (gapLimit : Nat) (m : Meter) (b : Base) (r : ReadingRecord) : Classified :=
  if gapLimit * slotSeconds < r.time - b.time then .gap .longGap
  else
    match m.kind with
    | .register => classifyRegister m b r
    | .pulse => classifyPulse m b r

/-! ### What an interval does (R32 to R35) -/

/-- R34: a gap ends a cover record's run, and sets its faulted flag where its zone's open night overlaps the gap. -/
def Cover.takeGap (night : Option Night) (t0 t1 : Nat) (c : Cover) : Cover :=
  { c.endRun with
    faulted := c.faulted ||
      (match night with
        | some nt => nt.state.isOpen && overlaps nt.ws nt.we t0 t1
        | none => false) }

/-- R33, R34: the meter record after a gap. -/
def gapMeter (s : State) (m : Meter) (b : Base) (r : ReadingRecord) (f : MeterFault) : Meter :=
  { m with
    base := some (m.baseFrom r)
    state := .live
    lastFault := some (f, r.time)
    fromCover := m.fromCover.map (Cover.takeGap (s.zone m.fromZone).night b.time r.time)
    toCover := m.toCover.map (Cover.takeGap (s.zone m.toZone).night b.time r.time) }

/-- R33 to R35: a gap. -/
def takeGap (ch : Nat) (m : Meter) (b : Base) (r : ReadingRecord) (f : MeterFault) (s : State) : State :=
  (s.setMeter ch (gapMeter s m b r f)).offerFault (.meterFault f) (some m.serial) none r.time

/-- R32: the interval handed to the Apportionment Unit. -/
def intervalOf (ch : Nat) (b : Base) (r : ReadingRecord) (forward reverse : Nat) : Interval :=
  ⟨ch, b.time, r.time, forward, reverse⟩

/-- R24, R32: the reading becomes the meter's base and the meter becomes LIVE. -/
def moveBase (ch : Nat) (r : ReadingRecord) (s : State) : State :=
  s.updMeter ch fun m => { m with base := some (m.baseFrom r), state := .live }

/-! ### One record (R21) -/

/-- R27 to R33: a record that passed the seven checks. -/
def formInterval (ch : Nat) (m : Meter) (b : Base) (r : ReadingRecord) (s : State) : RecordAnswer :=
  match classify s.settings.gapLimit m b r with
  | .gap f => ⟨takeGap ch m b r f s, .gap, f.code⟩
  | .accepted forward reverse =>
    let iv := intervalOf ch b r forward reverse
    ⟨moveBase ch r (apportion iv s), if intervalDrops iv s then .late else .ok, 0⟩

/-- R21 checks 5 to 7: the first base, OUT_OF_ORDER, DUPLICATE and CONFLICT. -/
def againstBase (ch : Nat) (m : Meter) (r : ReadingRecord) (s : State) : RecordAnswer :=
  match m.base with
  | none => ⟨moveBase ch r s, .ok, 0⟩
  | some b =>
    if r.time < b.time then ⟨s, .outOfOrder, 0⟩
    else
      match repeatOf m b r with
      | some code => ⟨s, code, 0⟩
      | none => formInterval ch m b r s

/-- R21: one reading record, checked in order. -/
def takeRecord (r : ReadingRecord) (s : State) : RecordAnswer :=
  if s.clock.isNone then ⟨s, .noClock, 0⟩
  else
    match s.meterBySerial r.serial with
    | none => ⟨s, .unknownMeter, 0⟩
    | some (ch, m) =>
      match recordFault m r with
      | some field => ⟨s, .badField, field⟩
      | none => if inFuture s r.time then ⟨s, .futureTime, 0⟩ else againstBase ch m r s

/-! ### READING (R19) -/

/-- READING (R19): the record's code, with its detail byte (R175). -/
def readingAnswer (r : ReadingRecord) (s : State) : Answer :=
  ⟨(takeRecord r s).state, (takeRecord r s).code, putNat 1 (takeRecord r s).detail⟩

def execReading (tag : Byte) (payload : List Byte) (s : State) : Host.Outcome State Fault Refusal :=
  serve 0x10 tag payload (fun p s => withFields (parseReading p) s fun r => readingAnswer r s) s

/-! ### READING_BATCH (R20) -/

/-- One entry of the reply: the record's code and its detail byte (R186). -/
def batchEntry (a : RecordAnswer) : List Byte := putNat 1 a.code.code ++ putNat 1 a.detail

/-- R20: the records one after another, with the engine events that fall between them; the state and the entries. -/
def takeRecords : List ReadingRecord → List Nat → State → State × List Byte
  | [], _, s => (s, [])
  | [r], _, s => ((takeRecord r s).state, batchEntry (takeRecord r s))
  | r :: rest, events, s =>
    let a := takeRecord r s
    let tail := takeRecords rest events.tail (engineEvents (events.headD 0) a.state)
    (tail.1, batchEntry a ++ tail.2)

/-- READING_BATCH (R20). -/
def batchAnswer (b : BatchReq) (events : List Nat) (s : State) : Answer :=
  if batchCountOk b.count then
    okWith (takeRecords b.records events s).1 (takeRecords b.records events s).2
  else badField s 1

def execReadingBatch (tag : Byte) (payload : List Byte) (closeEvents : List Nat) (s : State) :
    Host.Outcome State Fault Refusal :=
  serve 0x11 tag payload (fun p s => withFields (parseBatch p) s fun b => batchAnswer b closeEvents s) s

end Sys2Proof.Machine
end

