-- ==== Sys2Proof/Machine/ZoneSettings.lean ====
section
/-! DEFINITION. ZONE_SET (R42 to R44, R127, R133): the twenty settings, their ranges, the checks, the staging of the
geometry settings and what follows from a new confirm window or route mask. -/

namespace Sys2Proof.Machine

/-! ### The settings by identifier (R42) -/

/-- A value from 0 to 1 as a flag. -/
def boolOf (v : Int) : Bool := decide (v = 1)

/-- R42, R43 step 2: the value lies in its setting's own range. -/
def settingInRange (id : Nat) (v : Int) : Bool :=
  match id with
  | 1 => 0 ≤ v && v ≤ 95
  | 2 => 4 ≤ v && v ≤ 16
  | 3 => 4 ≤ v && v ≤ 48
  | 4 => 1 ≤ v && v ≤ 4
  | 5 => 0 ≤ v && v ≤ 15
  | 6 => 0 ≤ v && v ≤ 20000000
  | 7 => 0 ≤ v && v ≤ 1000000
  | 8 => 3 ≤ v && v ≤ 30
  | 9 => 1 ≤ v && v ≤ 6
  | 10 => 0 ≤ v && v ≤ 1000000
  | 11 => 0 ≤ v && v ≤ 8
  | 12 => 3 ≤ v && v ≤ 15
  | 13 => 1 ≤ v && v ≤ 15
  | 14 => 1 ≤ v && v ≤ 15
  | 15 => 0 ≤ v && v ≤ 31
  | 16 => 0 ≤ v && v ≤ 1
  | 17 => 0 ≤ v && v ≤ 1
  | 18 => 0 ≤ v && v ≤ 1
  | 19 => 0 ≤ v && v ≤ 3
  | 20 => 0 ≤ v && v ≤ 1
  | _ => false

/-- A geometry setting written. -/
def Geometry.write (g : Geometry) (id : Nat) (v : Int) : Geometry :=
  match id with
  | 1 => { g with startSlot := v.toNat }
  | 2 => { g with length := v.toNat }
  | 3 => { g with holdOpen := v.toNat }
  | 4 => { g with span := v.toNat }
  | 5 => { g with missLimit := v.toNat }
  | _ => g

/-- A pending copy written. -/
def Staged.write (c : Staged) (id : Nat) (v : Int) : Staged :=
  match id with
  | 1 => { c with startSlot := some v.toNat }
  | 2 => { c with length := some v.toNat }
  | 3 => { c with holdOpen := some v.toNat }
  | 4 => { c with span := some v.toNat }
  | 5 => { c with missLimit := some v.toNat }
  | _ => c

/-- One of settings 6 to 20 written. -/
def Params.write (p : Params) (id : Nat) (v : Int) : Params :=
  match id with
  | 6 => { p with allowance := v.toNat }
  | 7 => { p with negTolerance := v.toNat }
  | 8 => { p with learnNights := v.toNat }
  | 9 => { p with weightShift := v.toNat }
  | 10 => { p with absThreshold := v.toNat }
  | 11 => { p with relEighths := v.toNat }
  | 12 => { p with confirmWindow := v.toNat }
  | 13 => { p with clearRun := v.toNat }
  | 14 => { p with darkLimit := v.toNat }
  | 15 => { p with routeMask := CauseSet.ofCode v.toNat }
  | 16 => { p with publishHold := boolOf v }
  | 17 => { p with freezeOnLeak := boolOf v }
  | 18 => { p with notifyClosed := boolOf v }
  | 19 => { p with notifyLeak := LeakNotify.ofCode v.toNat }
  | 20 => { p with notifySuspect := boolOf v }
  | _ => p

/-- R44: one entry taken: a geometry setting of a zone not in STANDBY is staged, anything else is written at once. -/
def Zone.takeEntry (zn : Zone) (e : Nat × Int) : Zone :=
  if 5 < e.1 then { zn with params := zn.params.write e.1 e.2 }
  else if zn.monitor = .standby then { zn with geometry := zn.geometry.write e.1 e.2 }
  else { zn with staged := zn.staged.write e.1 e.2 }

/-! ### The checks (R43, R127) -/

/-- R43 step 2: the first failing field of the entries, from entry `i` on. -/
def entriesFault (earlier : List Nat) (i : Nat) : List (Nat × Int) → Option Nat
  | [] => none
  | (id, v) :: rest =>
    if !(1 ≤ id && id ≤ 20) || earlier.contains id then some (2 * i + 1)
    else if !settingInRange id v then some (2 * i + 2)
    else entriesFault (id :: earlier) (i + 1) rest

/-- The value a message carries for a setting. -/
def carried (entries : List (Nat × Int)) (id : Nat) : Option Nat :=
  (entries.find? fun e => decide (e.1 = id)).map (·.2.toNat)

/-- The value field of the first entry that carries one of some settings, the first entry's value being field 4. -/
def valueFieldOf (entries : List (Nat × Int)) (ids : List Nat) : Option Nat :=
  (entries.findIdx? fun e => ids.contains e.1).map fun i => 2 * (i + 1) + 2

/-- R43 step 3: the value a zone would next create a night with: the message's, else the pending copy, else the
setting. -/
def formed (entries : List (Nat × Int)) (id : Nat) (staged : Option Nat) (setting : Nat) : Nat :=
  (carried entries id).getD (staged.getD setting)

/-- R43 step 3: the miss limit so formed exceeds n − M so formed. -/
def geometryClash (zn : Zone) (entries : List (Nat × Int)) : Bool :=
  formed entries 2 zn.staged.length zn.geometry.length <
    formed entries 5 zn.staged.missLimit zn.geometry.missLimit + formed entries 4 zn.staged.span zn.geometry.span

/-- R127: the confirm window after the message. -/
def formedWindow (zn : Zone) (entries : List (Nat × Int)) : Nat := (carried entries 12).getD zn.params.confirmWindow

/-- R127: the clear run after the message. -/
def formedClear (zn : Zone) (entries : List (Nat × Int)) : Nat := (carried entries 13).getD zn.params.clearRun

/-- R43: what the checks of a ZONE_SET draw: nothing, a failing field, or ZONE_ACTIVE. A cross-check that fails where the
message carries none of its settings has no field to name and passes; no run reaches that (log 15). -/
def zoneSetRefusal (r : ZoneSetReq) (s : State) : Option (ReplyCode × Nat) :=
  let zn := s.zone r.zone
  if !zoneOk r.zone then some (.badField, 1)
  else if !zoneEntryCountOk r.count then some (.badField, 2)
  else
    match entriesFault [] 1 r.entries with
    | some field => some (.badField, field)
    | none =>
      match (if geometryClash zn r.entries then valueFieldOf r.entries [2, 4, 5] else none) with
      | some field => some (.badField, field)
      | none =>
        match (if formedWindow zn r.entries < formedClear zn r.entries then valueFieldOf r.entries [12, 13] else none) with
        | some field => some (.badField, field)
        | none =>
          if formedWindow zn r.entries < zn.params.confirmWindow && zn.monitor.armed then some (.zoneActive, 0) else none

/-! ### The effect (R44, R127, R133) -/

/-- R127: the hit list holds no more than W flags; the oldest go. -/
def Zone.shortenHits (zn : Zone) : Zone :=
  { zn with judge := { zn.judge with
      hitList := zn.judge.hitList.drop (zn.judge.hitList.length - zn.params.confirmWindow) } }

/-- R133: the summary formed again under the route mask setting. -/
def Zone.formSummary (zn : Zone) : Zone := { zn with summary := summaryOf zn.params.routeMask zn.held }

/-- R44, R127, R133: a zone after an accepted ZONE_SET. -/
def Zone.takeEntries (zn : Zone) (entries : List (Nat × Int)) : Zone :=
  let written := entries.foldl Zone.takeEntry zn
  let shortened := if written.params.confirmWindow < zn.params.confirmWindow then written.shortenHits else written
  if (carried entries 15).isSome then shortened.formSummary else shortened

/-- R150: the zone's groups are recomputed where its summary changed. -/
def refreshOnSummary (z : Nat) (before : State) (s : State) : State :=
  if (s.zone z).summary = (before.zone z).summary then s else refreshGroups z s

/-- R44: what an accepted ZONE_SET does. -/
def writeZone (r : ZoneSetReq) (s : State) : State :=
  refreshOnSummary r.zone s (s.updZone r.zone fun zn => zn.takeEntries r.entries)

/-- ZONE_SET (R43, R44). -/
def zoneSetAnswer (r : ZoneSetReq) (s : State) : Answer :=
  match zoneSetRefusal r s with
  | some (.badField, field) => badField s field
  | some (code, _) => refuse s code
  | none => okWith (writeZone r s) []

def execZoneSet (tag : Byte) (payload : List Byte) (s : State) : Host.Outcome State Fault Refusal :=
  serve 0x20 tag payload (fun p s => withFields (parseZoneSet p) s fun r => zoneSetAnswer r s) s

end Sys2Proof.Machine
end

