-- ==== Sys2Proof/Machine/ZoneCommands.lean ====
section
/-! DEFINITION. The zone commands of Chapter 7: ZONE_START, ZONE_STOP, ZONE_SURVEY, ACCEPT_LEVEL, ACK_ZONE and
RESET_ZONE. (EXCLUDE_NIGHT and FORCE_CLOSE act on the night alone and stand in Scheduler.lean.) -/

namespace Sys2Proof.Machine

/-- R109: at a command, ZONE_STATE is raised where the zone's settings, as they stand, select its change. -/
def raiseChange (z : Nat) (before : MonitorState) (s : State) : State :=
  s.raiseIf (changeSelected (s.zone z).params before (s.zone z).monitor) (.zoneState z before (s.zone z).monitor)

/-! ### ZONE_START and ZONE_SURVEY (R110, R111, R113) -/

/-- R110 step 1: ZONE_START's fields; a RESUME (1) needs a seed. -/
def zoneStartFault (r : ZoneStartReq) : Option Nat :=
  if !zoneOk r.zone then some 1
  else if 1 < r.mode then some 2
  else
    match r.seed with
    | some b => if b ≤ Config.flowLimit then none else some 3
    | none => if r.mode = 1 then some 3 else none

/-- R110 steps 2 to 4. -/
def startRefusal (z : Nat) (s : State) : Option ReplyCode :=
  if (s.zone z).monitor ≠ .standby then some .zoneActive
  else if (s.zone z).attach.isEmpty then some .noMeters
  else if s.clock.isNone then some .noClock
  else none

/-- R111: the zone's judgement started afresh. -/
def Zone.startAfresh (zn : Zone) (seed : Option Nat) (mode : Nat) : Zone :=
  { zn with
    judge := { Judgement.reset with baseline := seed, leakHeld := zn.judge.leakHeld }
    monitor := if mode = 1 then .watch else .learning }

/-- R111: what an accepted ZONE_START does. -/
def startZone (r : ZoneStartReq) (s : State) : State :=
  refreshGroups r.zone (createNight r.zone false (s.updZone r.zone fun zn => zn.startAfresh r.seed r.mode))

/-- ZONE_START (R110, R111). -/
def zoneStartAnswer (r : ZoneStartReq) (s : State) : Answer :=
  match zoneStartFault r with
  | some field => badField s field
  | none =>
    match startRefusal r.zone s with
    | some code => refuse s code
    | none => okWith (startZone r s) []

def execZoneStart (tag : Byte) (payload : List Byte) (s : State) : Host.Outcome State Fault Refusal :=
  serve 0x21 tag payload (fun p s => withFields (parseZoneStart p) s fun r => zoneStartAnswer r s) s

/-- R113: what an accepted ZONE_SURVEY does. -/
def surveyZone (z : Nat) (s : State) : State :=
  refreshGroups z (createNight z true (s.updZone z fun zn => { zn with monitor := .survey }))

/-- ZONE_SURVEY (R113). -/
def zoneSurveyAnswer (z : Nat) (s : State) : Answer :=
  if !zoneOk z then badField s 1
  else
    match startRefusal z s with
    | some code => refuse s code
    | none => okWith (surveyZone z s) []

def execZoneSurvey (tag : Byte) (payload : List Byte) (s : State) : Host.Outcome State Fault Refusal :=
  serve 0x23 tag payload (fun p s => withFields (parseNumber 1 p) s fun z => zoneSurveyAnswer z s) s

/-! ### ZONE_STOP (R89, R112) -/

/-- The zone's night is CLOSING. -/
def isClosing (zn : Zone) : Bool :=
  match zn.night with
  | some nt => decide (nt.state = .closing)
  | none => false

/-- R112: a stop that discards the night: the zone enters STANDBY, ZONE_STATE, then its groups. -/
def stopZone (z : Nat) (s : State) : State :=
  refreshGroups z
    (raiseChange z (s.zone z).monitor ((discardNight z s).updZone z fun zn => zn.enterStandby))

/-- ZONE_STOP (R112). -/
def zoneStopAnswer (z : Nat) (s : State) : Answer :=
  if !zoneOk z then badField s 1
  else if (s.zone z).monitor = .standby then refuse s .notActive
  else if isClosing (s.zone z) then okWith (s.updZone z fun zn => { zn with stopPending := true }) []
  else okWith (stopZone z s) []

def execZoneStop (tag : Byte) (payload : List Byte) (s : State) : Host.Outcome State Fault Refusal :=
  serve 0x22 tag payload (fun p s => withFields (parseNumber 1 p) s fun z => zoneStopAnswer z s) s

/-! ### ACCEPT_LEVEL (R115) -/

/-- R115: the zone rebased on its last valid minimum night flow. -/
def Zone.rebase (zn : Zone) (f : Int) : Zone :=
  { zn with
    judge := { zn.judge with baseline := some (clampBaseline f), hitList := [], nonHitRun := 0 }
    monitor := .watch }

/-- R115: what an accepted ACCEPT_LEVEL does; notices and groups only where the state changes. -/
def acceptLevel (z : Nat) (f : Int) (s : State) : State :=
  let s' := raiseChange z (s.zone z).monitor (s.updZone z fun zn => zn.rebase f)
  if (s.zone z).monitor = .watch then s' else refreshGroups z s'

/-- ACCEPT_LEVEL (R115). -/
def acceptLevelAnswer (z : Nat) (s : State) : Answer :=
  if !zoneOk z then badField s 1
  else if !(s.zone z).monitor.armed then refuse s .notActive
  else
    match (s.zone z).judge.lastMnf with
    | none => refuse s .noNight
    | some f => okWith (acceptLevel z f s) (putNat 4 (clampBaseline f))

def execAcceptLevel (tag : Byte) (payload : List Byte) (s : State) : Host.Outcome State Fault Refusal :=
  serve 0x26 tag payload (fun p s => withFields (parseNumber 1 p) s fun z => acceptLevelAnswer z s) s

/-! ### ACK_ZONE (R116, R134) -/

/-- R116, R134: the leak held flag is cleared outside LEAK, the held value of each cause whose live value is clear, and
the summary formed again. -/
def Zone.acknowledge (zn : Zone) : Zone :=
  Zone.formSummary
    { zn with
      judge := { zn.judge with leakHeld := zn.judge.leakHeld && decide (zn.monitor = .leak) }
      held := zn.held.inter zn.live }

/-- R116, R134, R150: what an ACK_ZONE does. -/
def ackZone (z : Nat) (s : State) : State := refreshOnSummary z s (s.updZone z Zone.acknowledge)

/-- ACK_ZONE (R116, R134). -/
def ackZoneAnswer (z : Nat) (s : State) : Answer :=
  if !zoneOk z then badField s 1
  else
    okWith (ackZone z s)
      (putBool ((ackZone z s).zone z).judge.leakHeld ++ putNat 1 ((ackZone z s).zone z).held.code)

def execAckZone (tag : Byte) (payload : List Byte) (s : State) : Host.Outcome State Fault Refusal :=
  serve 0x27 tag payload (fun p s => withFields (parseNumber 1 p) s fun z => ackZoneAnswer z s) s

/-! ### RESET_ZONE (R90, R117) -/

/-- R90: the close of zone `z` in service is voided. -/
def voidClose (z : Nat) (s : State) : State :=
  match s.engine with
  | some (.close c) => if c.zone = z then { s with engine := some (.close { c with void := true }) } else s
  | _ => s

/-- R117 step 1: the zone's night is discarded, or its close voided; either way it is no longer the current night, and the
masks and faulted flags of the zone's sides are cleared (R69, R90). -/
def dropNight (z : Nat) (s : State) : State :=
  match (s.zone z).night with
  | none => s
  | some nt => if nt.state = .closing then voidClose z (freeNight z s) else discardNight z s

/-- R117 steps 2 to 4: the zone as after a reset, keeping its settings and attachments. -/
def Zone.clearAll (zn : Zone) : Zone :=
  { Zone.reset with
    geometry := zn.enterStandby.geometry
    params := zn.params
    attach := zn.attach }

/-- R117: what a RESET_ZONE does. -/
def resetZone (z : Nat) (s : State) : State :=
  refreshGroups z (raiseChange z (s.zone z).monitor ((dropNight z s).updZone z Zone.clearAll))

/-- RESET_ZONE (R117). -/
def resetZoneAnswer (z : Nat) (s : State) : Answer :=
  if !zoneOk z then badField s 1 else okWith (resetZone z s) []

def execResetZone (tag : Byte) (payload : List Byte) (s : State) : Host.Outcome State Fault Refusal :=
  serve 0x28 tag payload (fun p s => withFields (parseNumber 1 p) s fun z => resetZoneAnswer z s) s

end Sys2Proof.Machine
end

