-- ==== Sys2Proof/Machine/Link.lean ====
section
/-! DEFINITION. The Link Interface (Chapter 12): reception, unknown kinds, NOTICE_FETCH, PART_SET, PART_STATUS, RESTART,
the resets and the reset pin. -/

namespace Sys2Proof.Machine

/-! ### Reception (R173, R174) -/

/-- R174: a complete frame is offered to the intake buffer. -/
def Link.offerFrame (l : Link) (f : Frame) : Link :=
  if l.intake.length < Config.intakeLimit then { l with intake := l.intake ++ [f] } else { l with overrun := true }

/-- The payload length that the first two bytes after the start byte give. -/
def declaredLength (got : List Byte) : Nat := fieldAt got 0 2

/-- R172: the bytes after the start byte of a frame whose payload length is `n`. -/
def frameLength (n : Nat) : Nat := n + 6

/-- The frame that the bytes after a start byte spell. -/
def frameOf (got : List Byte) : Frame where
  kind := got.getD 2 0
  tag := got.getD 3 0
  payload := slice got 4 (declaredLength got)

/-- R172, R173: the CRC received equals the CRC computed over the frame's bytes. -/
def crcMatches (got : List Byte) : Bool :=
  decide (fieldAt got (declaredLength got + 4) 2 = (crc (got.take (declaredLength got + 4))).toNat)

/-- R173: one byte in FRAME, `got` being the bytes after the start byte with this one. -/
def Link.inFrame (l : Link) (got : List Byte) : Link :=
  if got.length < 2 then { l with receiver := .frame got }
  else if Config.payloadLimit < declaredLength got then { l with receiver := .hunt }
  else if got.length < frameLength (declaredLength got) then { l with receiver := .frame got }
  else if crcMatches got then { l with receiver := .hunt }.offerFrame (frameOf got)
  else { l with receiver := .hunt }

/-- R173: one byte received. -/
def Link.receive (l : Link) (b : Byte) : Link :=
  match l.receiver with
  | .hunt => if b = Config.startByte then { l with receiver := .frame [] } else l
  | .frame got => l.inFrame (got ++ [b])

/-- R173: a run of bytes received. -/
def Link.receiveAll (l : Link) (bytes : List Byte) : Link := bytes.foldl Link.receive l

/-- FRAME_RECEIVED (R173), a run of bytes (log 19): bytes that arrive before the part is ready are ignored (R184). -/
def execFrameReceived (bytes : List Byte) (s : State) : Host.Outcome State Fault Refusal :=
  if s.link.power = .ready then .next { s with link := s.link.receiveAll bytes } else .next s

/-- INTER_BYTE_GAP (R173): a frame being taken is discarded silently, and the receiver returns to HUNT. -/
def execInterByteGap (s : State) : Host.Outcome State Fault Refusal :=
  .next { s with link := { s.link with receiver := .hunt } }

/-! ### UNKNOWN_KIND (R176) -/

/-- UNKNOWN_KIND: a request whose kind names no message. A kind of the catalogue is some message's, so this step does not
occur for it (log 3). -/
def execUnknownKind (kind tag : Byte) (payload : List Byte) (s : State) : Host.Outcome State Fault Refusal :=
  if catalogue.contains kind.toNat then .next s
  else serve kind tag payload (fun _ s => refuse s .unknownKind) s

/-! ### NOTICE_FETCH (R179) -/

/-- R179: how many notices a fetch delivers: at most 8 items, one of them OVERFLOW where the marker is set. -/
def fetchCount (l : Link) : Nat := min l.notices.length (8 - l.overflow.toNat)

/-- R179: the link after a fetch. -/
def Link.fetched (l : Link) : Link :=
  { l with notices := l.notices.drop (fetchCount l), overflow := false }

/-- R179: the body of NOTICE_FETCH. -/
def fetchBody (l : Link) : List Byte :=
  putNat 1 (fetchCount l + l.overflow.toNat) ++ putNat 1 (l.notices.length - fetchCount l) ++
  (if l.overflow then putOverflow else []) ++ (l.notices.take (fetchCount l)).flatMap putNotice

/-- NOTICE_FETCH (R179). -/
def noticeFetchAnswer (s : State) : Answer := okWith { s with link := s.link.fetched } (fetchBody s.link)

def execNoticeFetch (tag : Byte) (payload : List Byte) (s : State) : Host.Outcome State Fault Refusal :=
  serve 0x50 tag payload (fun p s => withFields (parseEmpty p) s fun _ => noticeFetchAnswer s) s

/-! ### PART_SET and PART_STATUS (R181, R182) -/

/-- R181: the value lies in its part setting's range, and an offset is a multiple of 900. -/
def partSettingInRange (id : Nat) (v : Int) : Bool :=
  match id with
  | 1 => 4 ≤ v && v ≤ 48
  | 2 => 0 ≤ v && v ≤ 900
  | 3 => 1 ≤ v && v ≤ 72
  | 4 => -50400 ≤ v && v ≤ 50400 && v % slotSeconds = 0
  | _ => false

/-- R181: the first failing field of the entries, from entry `i` on. -/
def partEntriesFault (earlier : List Nat) (i : Nat) : List (Nat × Int) → Option Nat
  | [] => none
  | (id, v) :: rest =>
    if !(1 ≤ id && id ≤ 4) || earlier.contains id then some (2 * i)
    else if !partSettingInRange id v then some (2 * i + 1)
    else partEntriesFault (id :: earlier) (i + 1) rest

/-- One entry of a PART_SET written. -/
def PartSettings.write (c : PartSettings) (e : Nat × Int) : PartSettings :=
  match e.1 with
  | 1 => { c with gapLimit := e.2.toNat }
  | 2 => { c with skew := e.2.toNat }
  | 3 => { c with staleLimit := e.2.toNat }
  | 4 => { c with offset := e.2 }
  | _ => c

/-- R181, R186: all four part settings, each in the width its range gives: 1, 2 and 1 bytes unsigned, and the offset 4 bytes
signed. -/
def putPartSettings (c : PartSettings) : List Byte :=
  putNat 1 c.gapLimit ++ putNat 2 c.skew ++ putNat 1 c.staleLimit ++ putInt 4 c.offset

/-- PART_SET (R181). -/
def partSetAnswer (r : PartSetReq) (s : State) : Answer :=
  if !partCountOk r.count then badField s 1
  else
    match partEntriesFault [] 1 r.entries with
    | some field => badField s field
    | none =>
      okWith { s with settings := r.entries.foldl PartSettings.write s.settings }
        (putPartSettings (r.entries.foldl PartSettings.write s.settings))

def execPartSet (tag : Byte) (payload : List Byte) (s : State) : Host.Outcome State Fault Refusal :=
  serve 0x19 tag payload (fun p s => withFields (parsePartSet p) s fun r => partSetAnswer r s) s

/-- R182: the engine's state, and for an item in service its kind, its zone and its void flag where it is a close. -/
def putEngine : Option Item → List Byte
  | none => putNat 1 0 ++ putOptNat 1 none ++ putOptNat 1 none ++ putOptNat 1 none
  | some (.close c) => putNat 1 1 ++ putOptNat 1 (some 0) ++ putOptNat 1 (some c.zone) ++ putOptNat 1 (some c.void.toNat)
  | some .testRun => putNat 1 1 ++ putOptNat 1 (some 1) ++ putOptNat 1 none ++ putOptNat 1 none

/-- PART_STATUS (R182). -/
def partStatusAnswer (s : State) : Answer :=
  okWith s (putOptNat 4 s.clock ++ putPartSettings s.settings ++ putNat 1 s.link.lineRate.code ++ putEngine s.engine ++
    putNat 2 s.closeQueue.length ++ putNat 2 s.meters.length ++ putNat 1 s.link.notices.length ++
    putBool s.link.overflow ++ putBool s.report.isSome ++ putNat 1 s.test.request.code)

def execPartStatus (tag : Byte) (payload : List Byte) (s : State) : Host.Outcome State Fault Refusal :=
  serve 0x51 tag payload (fun p s => withFields (parseEmpty p) s fun _ => partStatusAnswer s) s

/-! ### RESTART (R183) -/

/-- RESTART: answered OK before it takes effect, with the clock as it stood; RUNTIME is 0 and FULL is 1. -/
def restartAnswer (level : Nat) (s : State) : Answer :=
  if 1 < level then badField s 1
  else
    okWith { s with link := { s.link with restart := some (if level = 0 then .runtime else .full) } } (putOptNat 4 s.clock)

def execRestart (tag : Byte) (payload : List Byte) (s : State) : Host.Outcome State Fault Refusal :=
  serve 0x52 tag payload (fun p s => withFields (parseNumber 1 p) s fun level => restartAnswer level s) s

/-! ### What the resets leave -/

/-- The Link Interface after a RESTART (R183, R185): the line rate is kept, and so is the reply just sent (log 8). -/
def Link.restarted (l : Link) : Link := { Link.reset l.power l.lineRate with reply := l.reply }

/-- The Pin reset and RESTART FULL column of every chapter (R17, R36, R56, R74, R93, R106, R129, R146, R155, R161, R162),
with the Link Interface given. The model's own queue and free counter are no part of it. -/
def fullReset (l : Link) (s : State) : State :=
  { State.reset with pending := s.pending, freeCount := s.freeCount, link := l }

/-- The RESTART RUNTIME column for a zone: settings and attachments kept, pending copies applied, all else as reset (R17,
R56, R129, R146, R161). -/
def Zone.runtimeReset (zn : Zone) : Zone := zn.clearAll

/-- The RESTART RUNTIME column for a meter: everything kept, the cover records present and empty (R17, R74). -/
def Meter.runtimeReset (m : Meter) : Meter := m.rebuildCovers

/-- The RESTART RUNTIME column for a group: the definition kept, both values false (R155). -/
def Group.runtimeReset (gr : Group) : Group := { gr with leakValue := false, integValue := false }

/-- The RESTART RUNTIME column of every chapter, with the Link Interface given. -/
def runtimeReset (l : Link) (s : State) : State :=
  { fullReset l s with
    settings := s.settings
    meters := s.meters.map fun e => (e.1, e.2.runtimeReset)
    serials := s.serials
    zones := Table.mapListed Zone.reset Zone.runtimeReset s.zones
    groups := Table.mapListed Group.reset Group.runtimeReset s.groups }

/-- RESTART_TAKES_EFFECT (R183), where a RESTART was taken; otherwise it does not occur (log 3). -/
def execRestartTakesEffect (s : State) : Host.Outcome State Fault Refusal :=
  match s.link.restart with
  | some .runtime => .next (runtimeReset s.link.restarted s)
  | some .full => .next (fullReset s.link.restarted s)
  | none => .next s

/-! ### The reset pin (R184) -/

/-- R55, R93: what a reset that arrives in the middle of an operation abandons: the item in service, the close queue, every
night, a test that waits or runs, a reply in transmission, a frame in reception, a RESTART not yet in effect. A zone whose
night goes is in STANDBY (log 14), and the groups are recomputed for it (R107, R149), which raises no notice (R185). -/
def abandonAll (s : State) : State :=
  { recomputeAll (zoneNumbers.foldl
      (fun s z => (freeNight z s).updZone z fun zn => { zn.enterStandby with stopPending := false }) s) with
    engine := none
    closeQueue := []
    test := ⟨.idle, none⟩
    link := { s.link with power := .inReset, receiver := .hunt, reply := none, restart := none } }

/-- RESET_PIN_ASSERT (R184). -/
def execResetPinAssert (s : State) : Host.Outcome State Fault Refusal := .next (abandonAll s)

/-- R171: the rate the strap chooses. -/
def rateOf (rateHigh : Bool) : LineRate := if rateHigh then .baud460800 else .baud115200

/-- RESET_PIN_RELEASE (R184), while the pin is asserted; otherwise it does not occur (log 3). -/
def execResetPinRelease (rateHigh : Bool) (s : State) : Host.Outcome State Fault Refusal :=
  if s.link.power = .inReset then .next (fullReset (Link.reset .starting (rateOf rateHigh)) s) else .next s

/-- STARTUP_READY (R184), after the pin's release; otherwise it does not occur (log 3). -/
def execStartupReady (s : State) : Host.Outcome State Fault Refusal :=
  if s.link.power = .starting then .next { s with link := { s.link with power := .ready } } else .next s

end Sys2Proof.Machine
end

