-- ==== Sys2Proof/Machine/Publication.lean ====
section
/-! DEFINITION. What the host reads of causes and publication (Chapter 8): ZONE_READ, ZONE_PROFILE, CAPTURE_READ,
CLEAR_CAPTURE, REPORT_HOLD and REPORT_RELEASE. -/

namespace Sys2Proof.Machine

/-! ### ZONE_READ (R142) -/

/-- R142: settings 1 to 20, each a signed 4-byte value (R186). -/
def putSettings (g : Geometry) (p : Params) : List Byte :=
  ([g.startSlot, g.length, g.holdOpen, g.span, g.missLimit, p.allowance, p.negTolerance, p.learnNights, p.weightShift,
    p.absThreshold, p.relEighths, p.confirmWindow, p.clearRun, p.darkLimit, p.routeMask.code, p.publishHold.toNat,
    p.freezeOnLeak.toNat, p.notifyClosed.toNat, p.notifyLeak.code, p.notifySuspect.toNat] : List Nat).flatMap (putNat 4)

/-- R142: the pending copies of settings 1 to 5, each with its presence (log 11: after the twenty settings). -/
def putStaged (c : Staged) : List Byte :=
  [c.startSlot, c.length, c.holdOpen, c.span, c.missLimit].flatMap (putOptNat 4)

/-- R142: the current night; absent, its 24 bytes are zero (log 11). -/
def putNight (nt : Night) : List Byte :=
  putInt 4 nt.label ++ putNat 5 nt.ws ++ putNat 5 nt.we ++ putNat 5 nt.deadline ++ putNat 1 nt.state.code ++
  putOptNat 1 (nt.cause.map (·.code)) ++ putBool nt.excluded ++ putBool nt.survey

/-- R186: a hit list is its length and one code for each flag. -/
def putHits (hits : List HitFlag) : List Byte := putNat 1 hits.length ++ hits.flatMap fun f => putNat 1 f.code

/-- R108, R142: the judgement state record. -/
def putJudgement (j : Judgement) : List Byte :=
  putOptNat 4 j.baseline ++ putNat 1 j.learningCount ++ putHits j.hitList ++ putNat 1 j.nonHitRun ++
  putNat 1 j.darkCount ++ putBool j.leakHeld ++ putOptInt 4 j.lastMnf

/-- R142: the published record of a zone and its source: the held set while one is held, the live set otherwise. -/
def publishedFor (s : State) (z : Nat) : Nat × Option Published :=
  match s.report with
  | some set => (1, set.zones.getD (z - 1) none)
  | none => (0, (s.zone z).published)

/-- R142: the body of ZONE_READ. -/
def zoneBody (s : State) (z : Nat) : List Byte :=
  let zn := s.zone z
  putSettings zn.geometry zn.params ++ putStaged zn.staged ++ putNat 1 zn.attach.length ++
  putOption 24 (zn.night.map putNight) ++ putNat 1 zn.monitor.code ++ putBool zn.stopPending ++ putJudgement zn.judge ++
  putNat 1 zn.live.code ++ putNat 1 zn.held.code ++ putBool zn.summary ++
  putPublished (publishedFor s z).1 (publishedFor s z).2

/-- ZONE_READ (R142). -/
def zoneReadAnswer (z : Nat) (s : State) : Answer :=
  if !zoneOk z then badField s 1 else okWith s (zoneBody s z)

def execZoneRead (tag : Byte) (payload : List Byte) (s : State) : Host.Outcome State Fault Refusal :=
  serve 0x29 tag payload (fun p s => withFields (parseNumber 1 p) s fun z => zoneReadAnswer z s) s

/-! ### ZONE_PROFILE (R141) -/

/-- R141: the body of ZONE_PROFILE. -/
def putProfile (p : Profile) : List Byte :=
  putInt 4 p.label ++ putNat 1 p.slots.length ++ putNat 1 p.attachCount ++ p.slots.flatMap putProfileSlot

/-- ZONE_PROFILE (R141). -/
def zoneProfileAnswer (z : Nat) (s : State) : Answer :=
  if !zoneOk z then badField s 1
  else
    match (s.zone z).profile with
    | none => refuse s .noNight
    | some p => okWith s (putProfile p)

def execZoneProfile (tag : Byte) (payload : List Byte) (s : State) : Host.Outcome State Fault Refusal :=
  serve 0x2A tag payload (fun p s => withFields (parseNumber 1 p) s fun z => zoneProfileAnswer z s) s

/-! ### The fault capture record (R137, R138) -/

/-- CAPTURE_READ (R137). -/
def captureReadAnswer (s : State) : Answer := okWith s (putCapture s.capture)

def execCaptureRead (tag : Byte) (payload : List Byte) (s : State) : Host.Outcome State Fault Refusal :=
  serve 0x42 tag payload (fun p s => withFields (parseEmpty p) s fun _ => captureReadAnswer s) s

/-- CLEAR_CAPTURE (R138): the reply carries the record as it stood. -/
def clearCaptureAnswer (s : State) : Answer := okWith { s with capture := none } (putCapture s.capture)

def execClearCapture (tag : Byte) (payload : List Byte) (s : State) : Host.Outcome State Fault Refusal :=
  serve 0x43 tag payload (fun p s => withFields (parseEmpty p) s fun _ => clearCaptureAnswer s) s

/-! ### The report set (R143, R144) -/

/-- R143: the snapshot of every zone's live record and every group's values. -/
def reportOf (s : State) : ReportSet where
  stamp := s.clock
  zones := zoneNumbers.map fun z => (s.zone z).published
  groups := groupNumbers.map fun g => ((s.group g).leakValue, (s.group g).integValue)

/-- REPORT_HOLD (R143). -/
def reportHoldAnswer (s : State) : Answer :=
  if s.report.isSome then refuse s .alreadyHeld
  else okWith { s with report := some (reportOf s) } (putOptNat 4 s.clock)

def execReportHold (tag : Byte) (payload : List Byte) (s : State) : Host.Outcome State Fault Refusal :=
  serve 0x40 tag payload (fun p s => withFields (parseEmpty p) s fun _ => reportHoldAnswer s) s

/-- REPORT_RELEASE (R144). -/
def reportReleaseAnswer (s : State) : Answer :=
  if s.report.isNone then refuse s .notHeld else okWith { s with report := none } []

def execReportRelease (tag : Byte) (payload : List Byte) (s : State) : Host.Outcome State Fault Refusal :=
  serve 0x41 tag payload (fun p s => withFields (parseEmpty p) s fun _ => reportReleaseAnswer s) s

end Sys2Proof.Machine
end

