-- ==== Sys2Proof/Machine/Dispatch.lean ====
section
/-! DEFINITION. One arm per command: its meaning. -/

namespace Sys2Proof.Machine

/-- The effect of a command on everything but the queue. -/
def exec (i : Instr) (s : State) : Host.Outcome State Fault Refusal :=
  match i with
  | .addMeter tag payload => Sys2Proof.Machine.execAddMeter tag payload s
  | .removeMeter tag payload => Sys2Proof.Machine.execRemoveMeter tag payload s
  | .replaceMeter tag payload => Sys2Proof.Machine.execReplaceMeter tag payload s
  | .attachMeter tag payload => Sys2Proof.Machine.execAttachMeter tag payload s
  | .meterRead tag payload => Sys2Proof.Machine.execMeterRead tag payload s
  | .reading tag payload => Sys2Proof.Machine.execReading tag payload s
  | .readingBatch tag payload closeEvents => Sys2Proof.Machine.execReadingBatch tag payload closeEvents s
  | .clockMark tag payload => Sys2Proof.Machine.execClockMark tag payload s
  | .partSet tag payload => Sys2Proof.Machine.execPartSet tag payload s
  | .partStatus tag payload => Sys2Proof.Machine.execPartStatus tag payload s
  | .zoneSet tag payload => Sys2Proof.Machine.execZoneSet tag payload s
  | .forceClose tag payload => Sys2Proof.Machine.execForceClose tag payload s
  | .zoneStart tag payload => Sys2Proof.Machine.execZoneStart tag payload s
  | .zoneStop tag payload => Sys2Proof.Machine.execZoneStop tag payload s
  | .zoneSurvey tag payload => Sys2Proof.Machine.execZoneSurvey tag payload s
  | .excludeNight tag payload => Sys2Proof.Machine.execExcludeNight tag payload s
  | .acceptLevel tag payload => Sys2Proof.Machine.execAcceptLevel tag payload s
  | .ackZone tag payload => Sys2Proof.Machine.execAckZone tag payload s
  | .resetZone tag payload => Sys2Proof.Machine.execResetZone tag payload s
  | .zoneRead tag payload => Sys2Proof.Machine.execZoneRead tag payload s
  | .zoneProfile tag payload => Sys2Proof.Machine.execZoneProfile tag payload s
  | .groupSet tag payload => Sys2Proof.Machine.execGroupSet tag payload s
  | .groupRead tag payload => Sys2Proof.Machine.execGroupRead tag payload s
  | .historyRead tag payload => Sys2Proof.Machine.execHistoryRead tag payload s
  | .unfreeze tag payload => Sys2Proof.Machine.execUnfreeze tag payload s
  | .reportHold tag payload => Sys2Proof.Machine.execReportHold tag payload s
  | .reportRelease tag payload => Sys2Proof.Machine.execReportRelease tag payload s
  | .captureRead tag payload => Sys2Proof.Machine.execCaptureRead tag payload s
  | .clearCapture tag payload => Sys2Proof.Machine.execClearCapture tag payload s
  | .testStart tag payload => Sys2Proof.Machine.execTestStart tag payload s
  | .testCancel tag payload => Sys2Proof.Machine.execTestCancel tag payload s
  | .testRead tag payload => Sys2Proof.Machine.execTestRead tag payload s
  | .testClear tag payload => Sys2Proof.Machine.execTestClear tag payload s
  | .noticeFetch tag payload => Sys2Proof.Machine.execNoticeFetch tag payload s
  | .restart tag payload => Sys2Proof.Machine.execRestart tag payload s
  | .unknownKind kind tag payload => Sys2Proof.Machine.execUnknownKind kind tag payload s
  | .restartTakesEffect => Sys2Proof.Machine.execRestartTakesEffect s
  | .frameReceived bytes => Sys2Proof.Machine.execFrameReceived bytes s
  | .interByteGap => Sys2Proof.Machine.execInterByteGap s
  | .resetPinAssert => Sys2Proof.Machine.execResetPinAssert s
  | .resetPinRelease rateHigh => Sys2Proof.Machine.execResetPinRelease rateHigh s
  | .startupReady => Sys2Proof.Machine.execStartupReady s
  | .closeStart => Sys2Proof.Machine.execCloseStart s
  | .testRunStart => Sys2Proof.Machine.execTestRunStart s
  | .closeCompletion => Sys2Proof.Machine.execCloseCompletion s
  | .testRunCompletion => Sys2Proof.Machine.execTestRunCompletion s

end Sys2Proof.Machine
end

