-- ==== Sys2Proof/Safety.lean ====
section
/-! DEFINITION. What the statements speak of: when a request is taken, what its reply leaves, and the invariants of the
part, each from the rules its docstring names. -/

namespace Sys2Proof.Machine

/-! ### Requests -/

/-- A request with this frame can be taken: the part is ready (R184), no RESTART waits to take effect (R183), and the frame
is at the head of the intake buffer, or the buffer is empty and it completed just now (R175; log 2). -/
abbrev Takes (s : State) (kind tag : Byte) (payload : List Byte) : Prop :=
  s.link.power = .ready ∧ s.link.restart = none ∧
    (s.link.intake = [] ∨ s.link.intake.head? = some ⟨kind, tag, payload⟩)

/-- The part takes engine events: it is ready (R184) and no RESTART waits to take effect (R183). -/
abbrev Runs (s : State) : Prop := s.link.power = .ready ∧ s.link.restart = none

/-- R174, R175: the state with a reply built from it and the overrun marker cleared. -/
def State.replied (s : State) (kind tag : Byte) (code : ReplyCode) (body : List Byte) : State :=
  { s with link := { s.link with
      overrun := false
      reply := some
        { kind := kind + 0x80
          tag := tag
          code := code
          flags := BitVec.ofNat 8 (s.link.overrun.toNat + 2 * s.attn.toNat)
          body := body } } }

/-- The codes of a request that is not refused: OK, and the codes of a reading that formed an interval (R26). -/
abbrev ReplyCode.taken (c : ReplyCode) : Prop := c = .ok ∨ c = .gap ∨ c = .late

/-- The payload length that R176 step 2 expects of a kind whose requests are all of one length (section 12.5, R186). -/
def fixedLength (kind : Nat) : Option Nat :=
  ([(0x01, 13), (0x02, 4), (0x03, 35), (0x04, 6), (0x05, 5), (0x18, 4), (0x21, 7), (0x22, 1), (0x23, 1), (0x24, 1),
    (0x25, 1), (0x26, 1), (0x27, 1), (0x28, 1), (0x29, 1), (0x2A, 1), (0x31, 1), (0x38, 3), (0x39, 1), (0x40, 0), (0x41, 0),
    (0x42, 0), (0x43, 0), (0x48, 1), (0x49, 0), (0x4A, 0), (0x4B, 0), (0x50, 0), (0x51, 0),
    (0x52, 1)] : List (Nat × Nat)).lookup kind

/-- The fixed part of a kind whose payload's length its own fields decide (section 12.6, R186). -/
def fixedPart (kind : Nat) : Option Nat :=
  ([(0x10, 14), (0x11, 1), (0x19, 1), (0x20, 2), (0x30, 6)] : List (Nat × Nat)).lookup kind

/-- A meter description whose fields fit their carried widths (R186). -/
abbrev MeterSpec.Fits (d : MeterSpec) : Prop :=
  d.kind < 256 ∧ d.flow < 256 ∧ d.unit < 65536 ∧ d.digits < 256 ∧ d.qmax < 2 ^ 32

/-- A settings entry that fits its carried widths (R186). -/
abbrev EntryFits (e : Nat × Int) : Prop := e.1 < 256 ∧ -(2 ^ 31) ≤ e.2 ∧ e.2 < 2 ^ 31

/-- R181: an entry of PART_SET whose identifier names a part setting and whose value lies in its range. -/
abbrev PartEntryOk (e : Nat × Int) : Prop :=
  (e.1 = 1 ∧ 4 ≤ e.2 ∧ e.2 ≤ 48) ∨ (e.1 = 2 ∧ 0 ≤ e.2 ∧ e.2 ≤ 900) ∨ (e.1 = 3 ∧ 1 ≤ e.2 ∧ e.2 ≤ 72) ∨
    (e.1 = 4 ∧ -50400 ≤ e.2 ∧ e.2 ≤ 50400 ∧ e.2 % 900 = 0)

/-- R42: the least and the greatest value of each zone setting's own range. -/
def settingRange (id : Nat) : Option (Int × Int) :=
  [(0, 95), (4, 16), (4, 48), (1, 4), (0, 15), (0, 20000000), (0, 1000000), (3, 30), (1, 6), (0, 1000000), (0, 8), (3, 15),
    (1, 15), (1, 15), (0, 31), (0, 1), (0, 1), (0, 1), (0, 3), (0, 1)][id - 1]?

/-- R42: an entry of ZONE_SET whose identifier names a zone setting and whose value lies in its range. -/
abbrev ZoneEntryOk (e : Nat × Int) : Prop :=
  1 ≤ e.1 ∧ e.1 ≤ 20 ∧ ∃ range, settingRange e.1 = some range ∧ range.1 ≤ e.2 ∧ e.2 ≤ range.2

/-- R42, R186: a zone's setting by its identifier, as ZONE_SET and ZONE_READ carry it. -/
def Zone.setting (zn : Zone) (id : Nat) : Int :=
  match id with
  | 1 => zn.geometry.startSlot
  | 2 => zn.geometry.length
  | 3 => zn.geometry.holdOpen
  | 4 => zn.geometry.span
  | 5 => zn.geometry.missLimit
  | 6 => zn.params.allowance
  | 7 => zn.params.negTolerance
  | 8 => zn.params.learnNights
  | 9 => zn.params.weightShift
  | 10 => zn.params.absThreshold
  | 11 => zn.params.relEighths
  | 12 => zn.params.confirmWindow
  | 13 => zn.params.clearRun
  | 14 => zn.params.darkLimit
  | 15 => zn.params.routeMask.code
  | 16 => zn.params.publishHold.toNat
  | 17 => zn.params.freezeOnLeak.toNat
  | 18 => zn.params.notifyClosed.toNat
  | 19 => zn.params.notifyLeak.code
  | 20 => zn.params.notifySuspect.toNat
  | _ => 0

/-- R44: a zone's pending copy of a geometry setting by its identifier. -/
def Zone.pendingCopy (zn : Zone) (id : Nat) : Option Nat :=
  match id with
  | 1 => zn.staged.startSlot
  | 2 => zn.staged.length
  | 3 => zn.staged.holdOpen
  | 4 => zn.staged.span
  | 5 => zn.staged.missLimit
  | _ => none

/-- A meter description whose fields are all in range and agree (R2, R8). -/
abbrev MeterSpec.Valid (d : MeterSpec) : Prop :=
  d.kind ≤ 1 ∧ d.flow ≤ 1 ∧ (d.kind = 1 → d.flow = 0) ∧
    (d.unit = 1 ∨ d.unit = 10 ∨ d.unit = 100 ∨ d.unit = 1000 ∨ d.unit = 10000) ∧
    (d.kind = 0 → 4 ≤ d.digits ∧ d.digits ≤ 10) ∧ (d.kind = 1 → d.digits = 0) ∧
    1 ≤ d.qmax ∧ d.qmax ≤ 2000000

/-- A serial in range (R1). -/
abbrev SerialValid (serial : Nat) : Prop := 1 ≤ serial ∧ serial ≤ 4294967294

/-- A zone number in range (0.5.5). -/
abbrev ZoneValid (z : Nat) : Prop := 1 ≤ z ∧ z ≤ 255

/-- A reading record whose fields fit their carried widths (section 12.6). -/
abbrev ReadingRecord.Fits (r : ReadingRecord) : Prop :=
  r.serial < 2 ^ 32 ∧ r.time < 2 ^ 32 ∧ r.forward < 2 ^ 40 ∧ (∀ v ∈ r.reverse, v < 2 ^ 40) ∧ (∀ q ∈ r.sequence, q < 256)

/-! ### The checks of a reading record (R22), of REPLACE_METER (R12) and of a payload's length (R176) -/

/-- R22, field 3: a register index below the modulus, or a PULSE value of at most 65,535. -/
abbrev ReadingRecord.ValueOk (r : ReadingRecord) (m : Meter) : Prop :=
  (m.kind = .register → r.forward < 10 ^ m.digits.getD 0) ∧ (m.kind = .pulse → r.forward ≤ 65535)

/-- R22, field 4: a reverse index for a TWO_WAY meter alone, and below the modulus. -/
abbrev ReadingRecord.ReverseOk (r : ReadingRecord) (m : Meter) : Prop :=
  (m.flow = .oneWay → r.reverse = none) ∧ (m.flow = .twoWay → ∃ v ∈ r.reverse, v < 10 ^ m.digits.getD 0)

/-- R22, field 5: a pulse sequence for a PULSE meter alone. -/
abbrev ReadingRecord.SequenceOk (r : ReadingRecord) (m : Meter) : Prop :=
  (m.kind = .register → r.sequence = none) ∧ (m.kind = .pulse → r.sequence ≠ none)

/-- R22: a record's fields agree with its meter. -/
abbrev ReadingRecord.FieldsOk (r : ReadingRecord) (m : Meter) : Prop := r.ValueOk m ∧ r.ReverseOk m ∧ r.SequenceOk m

/-- R2, R12: what step 1 asks of each field of REPLACE_METER, the cross-field checks at the later of their fields. -/
abbrev ReplaceReq.FieldOk (r : ReplaceReq) (field : Nat) : Prop :=
  match field with
  | 1 => SerialValid r.serial
  | 2 => ∀ n ∈ r.newSerial, SerialValid n
  | 3 => r.spec.kind ≤ 1
  | 4 => r.spec.flow ≤ 1 ∧ (r.spec.kind = 1 → r.spec.flow = 0)
  | 5 => r.spec.unit = 1 ∨ r.spec.unit = 10 ∨ r.spec.unit = 100 ∨ r.spec.unit = 1000 ∨ r.spec.unit = 10000
  | 6 => (r.spec.kind = 0 → 4 ≤ r.spec.digits ∧ r.spec.digits ≤ 10) ∧ (r.spec.kind = 1 → r.spec.digits = 0)
  | 7 => 1 ≤ r.spec.qmax ∧ r.spec.qmax ≤ 2000000
  | 9 => (r.spec.kind = 0 → r.forward < 10 ^ r.spec.digits) ∧ (r.spec.kind = 1 → r.forward ≤ 65535)
  | 10 => (r.spec.flow = 0 → r.reverse = none) ∧ (r.spec.flow = 1 → ∃ v ∈ r.reverse, v < 10 ^ r.spec.digits)
  | 11 => (r.spec.kind = 0 → r.sequence = none) ∧ (r.spec.kind = 1 → r.sequence ≠ none)
  | _ => True

/-- R2, R8: the range of each field of ADD_METER by itself; its cross-field checks come after these. -/
abbrev AddMeterReq.FieldInRange (r : AddMeterReq) (field : Nat) : Prop :=
  match field with
  | 1 => SerialValid r.serial
  | 2 => r.spec.kind ≤ 1
  | 3 => r.spec.flow ≤ 1
  | 4 => r.spec.unit = 1 ∨ r.spec.unit = 10 ∨ r.spec.unit = 100 ∨ r.spec.unit = 1000 ∨ r.spec.unit = 10000
  | 5 => r.spec.digits = 0 ∨ (4 ≤ r.spec.digits ∧ r.spec.digits ≤ 10)
  | 6 => 1 ≤ r.spec.qmax ∧ r.spec.qmax ≤ 2000000
  | _ => True

/-- R151: the range of each of GROUP_SET's fields 1 to 6. -/
abbrev GroupSetReq.FieldInRange (r : GroupSetReq) (field : Nat) : Prop :=
  match field with
  | 1 => 1 ≤ r.group ∧ r.group ≤ 32
  | 2 => r.leakMode ≤ 1
  | 3 => r.leakEnable ≤ 1
  | 4 => r.integMode ≤ 1
  | 5 => r.integEnable ≤ 1
  | 6 => r.count ≤ 32
  | _ => True

/-- A GROUP_SET whose fields fit their carried widths, with as many members as its count, where that is in range, declares
(R176, R186). -/
abbrev GroupSetReq.Fits (r : GroupSetReq) : Prop :=
  r.group < 256 ∧ r.leakMode < 256 ∧ r.leakEnable < 256 ∧ r.integMode < 256 ∧ r.integEnable < 256 ∧ r.count < 256 ∧
    (r.count ≤ 32 → r.members.length = r.count) ∧ ∀ z ∈ r.members, z < 256

/-- A REPLACE_METER whose fields fit their carried widths (R186). -/
abbrev ReplaceReq.Fits (r : ReplaceReq) : Prop :=
  r.serial < 2 ^ 32 ∧ (∀ n ∈ r.newSerial, n < 2 ^ 32) ∧ r.spec.Fits ∧ r.time < 2 ^ 32 ∧ r.forward < 2 ^ 40 ∧
    (∀ v ∈ r.reverse, v < 2 ^ 40) ∧ ∀ q ∈ r.sequence, q < 256

/-- R176 step 2: a payload long enough for its fixed part whose length is not the one that its count in range or its presence
bits declare, or that holds a presence byte its message does not define (sections 12.5 and 12.6, R186; log 9). -/
abbrev LengthUnmet (kind : Nat) (p : List Byte) : Prop :=
  match kind with
  | 0x03 => p.length = 35 ∧ (1 < fieldAt p 4 1 ∨ 1 < fieldAt p 27 1 ∨ 1 < fieldAt p 33 1)
  | 0x10 => 14 ≤ p.length ∧ (3 < fieldAt p 8 1 ∨ p.length ≠ 14 + 5 * (fieldAt p 8 1 % 2) + fieldAt p 8 1 / 2)
  | 0x19 => 1 ≤ p.length ∧ 1 ≤ fieldAt p 0 1 ∧ fieldAt p 0 1 ≤ 4 ∧ p.length ≠ 1 + 5 * fieldAt p 0 1
  | 0x20 => 2 ≤ p.length ∧ 1 ≤ fieldAt p 1 1 ∧ fieldAt p 1 1 ≤ 20 ∧ p.length ≠ 2 + 5 * fieldAt p 1 1
  | 0x21 => p.length = 7 ∧ 1 < fieldAt p 2 1
  | 0x30 => 6 ≤ p.length ∧ fieldAt p 5 1 ≤ 32 ∧ p.length ≠ 6 + fieldAt p 5 1
  | _ => False

/-! ### Records that fit their carried widths (section 12.6, R186) -/

/-- A number that a signed 4-byte field carries. -/
abbrev FitsSigned (i : Int) : Prop := -(2 ^ 31) ≤ i ∧ i < 2 ^ 31

/-- A cover record whose times fit 4 bytes. -/
abbrev Cover.Fits (c : Cover) : Prop := (∀ t ∈ c.runStart, t < 2 ^ 32) ∧ c.runEnd < 2 ^ 32

/-- A base whose parts fit 4, 5, 5 and 1 bytes. -/
abbrev Base.Fits (b : Base) : Prop :=
  b.time < 2 ^ 32 ∧ (∀ v ∈ b.forward, v < 2 ^ 40) ∧ (∀ v ∈ b.reverse, v < 2 ^ 40) ∧ ∀ q ∈ b.sequence, q < 256

/-- A meter record that METER_READ's reply carries whole. -/
abbrev Meter.Fits (m : Meter) : Prop :=
  m.serial < 2 ^ 32 ∧ m.unit < 65536 ∧ (∀ d ∈ m.digits, d < 256) ∧ m.qmax < 2 ^ 32 ∧ m.fromZone < 256 ∧ m.toZone < 256 ∧
    (∀ b ∈ m.base, b.Fits) ∧ (∀ f ∈ m.lastFault, f.2 < 2 ^ 32) ∧ ∀ side, ∀ c ∈ m.coverOn side, c.Fits

/-- A night that ZONE_READ's reply carries whole. -/
abbrev Night.Fits (nt : Night) : Prop :=
  FitsSigned nt.label ∧ nt.ws < 2 ^ 40 ∧ nt.we < 2 ^ 40 ∧ nt.deadline < 2 ^ 40

/-- A judgement state that ZONE_READ's reply carries whole. -/
abbrev Judgement.Fits (j : Judgement) : Prop :=
  (∀ b ∈ j.baseline, b < 2 ^ 32) ∧ j.learningCount < 256 ∧ j.hitList.length < 256 ∧ j.nonHitRun < 256 ∧ j.darkCount < 256 ∧
    ∀ f ∈ j.lastMnf, FitsSigned f

/-- A night record that HISTORY_READ's reply carries whole. -/
abbrev NightRecord.Fits (r : NightRecord) : Prop :=
  FitsSigned r.label ∧ r.ws < 2 ^ 40 ∧ r.closeTime < 2 ^ 32 ∧ (∀ f ∈ r.mnf, FitsSigned f) ∧ (∀ e ∈ r.estimate, e < 2 ^ 32) ∧
    (∀ b ∈ r.baseline, b < 2 ^ 32) ∧ (∀ e ∈ r.excess, FitsSigned e) ∧ r.covered < 256 ∧ r.missing < 256

/-- A capture record that CAPTURE_READ's reply carries whole. -/
abbrev Capture.Fits (c : Capture) : Prop :=
  (∀ n ∈ c.serial, n < 2 ^ 32) ∧ (∀ z ∈ c.zone, z < 256) ∧ c.time < 2 ^ 32

/-- A result record that TEST_READ's reply carries whole. -/
abbrev TestResult.Fits (r : TestResult) : Prop :=
  r.test < 256 ∧ (∀ n ∈ r.failCase, n < 256) ∧ (∀ t ∈ r.clock, t < 2 ^ 32) ∧
    ∀ a ∈ r.failMeter, a.zone < 256 ∧ a.serial < 2 ^ 32 ∧ a.channel < 65536

/-- A notice that its 11 bytes carry whole. -/
abbrev Notice.Fits (n : Notice) : Prop :=
  n.subject < 2 ^ 32 ∧
    match n with
    | .nightClosed _ label _ _ _ => FitsSigned label
    | .meterStale _ channel baseTime => channel < 65536 ∧ baseTime < 2 ^ 32
    | .testDone test _ => test < 256
    | _ => True

/-! ### Nights and coverage (R41, R48, R70) -/

/-- R41, R48: the night that a creation gives a zone: its geometry, the offset, the window's start and the survey flag. -/
abbrev createdNight (g : Geometry) (offset : Int) (ws : Nat) (survey : Bool) : Night where
  label := ((ws : Int) + offset) / 86400
  ws := ws
  we := ws + 900 * g.length
  deadline := ws + 900 * g.length + 900 * g.holdOpen
  state := .pending
  cause := none
  excluded := false
  survey := survey
  length := g.length
  span := g.span
  missLimit := g.missLimit
  holdOpen := g.holdOpen
  slots := List.replicate g.length 0

/-- R70: the cover record of an entry's meter on the entry's side meets a condition. -/
def coverMeets (s : State) (e : Attachment) (condition : Cover → Bool) : Bool :=
  ((s.meter? e.channel).bind fun m => m.coverOn e.side).any condition

/-- R70: slot `j` of zone `z` is covered. -/
abbrev SlotCoveredIn (s : State) (z j : Nat) : Prop :=
  (s.zone z).attach ≠ [] ∧ ∀ e ∈ (s.zone z).attach, coverMeets s e (·.mask.getLsbD j) = true

/-! ### The tables (log 16) -/

/-- The four tables are in canonical form. -/
abbrev TablesOk (s : State) : Prop :=
  Table.Rising s.meters ∧ Table.Rising s.serials ∧ Table.Canonical Zone.reset s.zones ∧
    Table.Canonical Group.reset s.groups

/-! ### The directory (R1, R3, R4) -/

/-- R1, R6: channels 0 to 2,047, serials in range, a base absent exactly while the meter is UNBASED, and the map takes a serial
to a channel exactly where that channel's record has that serial. -/
abbrev DirectoryOk (s : State) : Prop :=
  (∀ ch m, s.meter? ch = some m → ch < 2048 ∧ SerialValid m.serial ∧ (m.state = .unbased ↔ m.base = none)) ∧
    ∀ serial ch, s.channelOf serial = some ch ↔ ∃ m, s.meter? ch = some m ∧ m.serial = serial

/-- R3, R4 for one meter: its zones differ unless both are 0, and a side has a cover record exactly when its zone is not 0. -/
abbrev Meter.SidesOk (m : Meter) : Prop :=
  (m.fromZone = m.toZone → m.fromZone = 0) ∧ (m.fromCover.isSome ↔ m.fromZone ≠ 0) ∧ (m.toCover.isSome ↔ m.toZone ≠ 0)

/-- R3 for one list: ascending channel, no two entries for one channel, at most 48. -/
abbrev ListOk (l : List Attachment) : Prop := l.Pairwise (fun a b => a.channel < b.channel) ∧ l.length ≤ 48

/-- R3, R4: a zone's list holds an entry for a channel and a side exactly when that channel's meter has the zone on that
side; the lists are in form, and so are the meters' sides. -/
abbrev AttachOk (s : State) : Prop :=
  (∀ ch m, s.meter? ch = some m → m.SidesOk) ∧ (∀ z, ListOk (s.zone z).attach) ∧
    ∀ z ch side, z ≠ 0 →
      ((⟨ch, side⟩ : Attachment) ∈ (s.zone z).attach ↔ ∃ m, s.meter? ch = some m ∧ m.zoneOn side = z)

/-! ### Settings and nights (R42, R48, R181) -/

/-- R181: the part settings lie in their ranges, the offset a multiple of 900. -/
abbrev PartSettings.Ok (c : PartSettings) : Prop :=
  4 ≤ c.gapLimit ∧ c.gapLimit ≤ 48 ∧ c.skew ≤ 900 ∧ 1 ≤ c.staleLimit ∧ c.staleLimit ≤ 72 ∧
    -50400 ≤ c.offset ∧ c.offset ≤ 50400 ∧ c.offset % 900 = 0

/-- R42: settings 6 to 14 lie in their ranges (15 to 20 are named values). -/
abbrev Params.Ok (p : Params) : Prop :=
  p.allowance ≤ 20000000 ∧ p.negTolerance ≤ 1000000 ∧ 3 ≤ p.learnNights ∧ p.learnNights ≤ 30 ∧
    1 ≤ p.weightShift ∧ p.weightShift ≤ 6 ∧ p.absThreshold ≤ 1000000 ∧ p.relEighths ≤ 8 ∧
    3 ≤ p.confirmWindow ∧ p.confirmWindow ≤ 15 ∧ 1 ≤ p.clearRun ∧ p.clearRun ≤ p.confirmWindow ∧
    1 ≤ p.darkLimit ∧ p.darkLimit ≤ 15

/-- R42: a geometry in its ranges: s, n, h, M, and the miss limit at most n − M. -/
abbrev Geometry.Ok (g : Geometry) : Prop :=
  g.startSlot ≤ 95 ∧ 4 ≤ g.length ∧ g.length ≤ 16 ∧ 4 ≤ g.holdOpen ∧ g.holdOpen ≤ 48 ∧ 1 ≤ g.span ∧ g.span ≤ 4 ∧
    g.missLimit + g.span ≤ g.length

/-- R42 to R44: a zone's settings lie in their ranges; so does the geometry its next night would be created with; and in
STANDBY no copy is pending. -/
abbrev Zone.SettingsOk (zn : Zone) : Prop :=
  zn.geometry.Ok ∧ zn.applyStaged.geometry.Ok ∧ zn.params.Ok ∧ (zn.monitor = .standby → zn.staged = Staged.none)

/-- R41, R48, R57: a night's captured geometry is in range, its bounds follow from it, and it has n accumulators. -/
abbrev Night.Ok (nt : Night) : Prop :=
  4 ≤ nt.length ∧ nt.length ≤ 16 ∧ 1 ≤ nt.span ∧ nt.span ≤ 4 ∧ nt.missLimit + nt.span ≤ nt.length ∧
    4 ≤ nt.holdOpen ∧ nt.holdOpen ≤ 48 ∧ nt.we = nt.ws + 900 * nt.length ∧ nt.deadline = nt.we + 900 * nt.holdOpen ∧
    nt.slots.length = nt.length

/-- R42, R48, R80, R181: every setting, every night and the captured settings of a close in service are in range. -/
abbrev SettingsOk (s : State) : Prop :=
  s.settings.Ok ∧ (∀ z, (s.zone z).SettingsOk) ∧ (∀ z nt, (s.zone z).night = some nt → nt.Ok) ∧
    ∀ c, s.engine = some (.close c) → c.captured.Ok ∧ c.night.Ok

/-! ### The close queue and the engine (R45, R75, R76) -/

/-- The state of zone `z`'s current night. -/
def nightState (s : State) (z : Nat) : Option NightState := (s.zone z).night.map (·.state)

/-- R76: each zone at most once and at most one test entry; a zone is in the queue exactly when its current night is QUEUED,
the test entry exactly when the test request is QUEUED. -/
abbrev QueueOk (s : State) : Prop :=
  s.closeQueue.Nodup ∧ (∀ z, .zone z ∈ s.closeQueue ↔ nightState s z = some .queued) ∧
    (.test ∈ s.closeQueue ↔ ∃ n, s.test.request = .queued n)

/-- R45, R54, R75, R107: the item in service against the zones: a test run is in service exactly when the test request is
RUNNING; a zone's night is CLOSING exactly when an unvoided close of that zone is in service, and the close holds that night. -/
abbrev EngineOk (s : State) : Prop :=
  (s.engine = some .testRun ↔ ∃ n, s.test.request = .running n) ∧
    (∀ z, nightState s z = some .closing ↔ ∃ c, s.engine = some (.close c) ∧ c.zone = z ∧ c.void = false) ∧
    ∀ c, s.engine = some (.close c) → c.void = false → (s.zone c.zone).night = some c.night

/-- R45, R107 for one zone: no current night exactly in STANDBY; the night is a survey night exactly in SURVEY; it has a
close cause exactly when it is QUEUED or CLOSING; stop pending only while it is CLOSING. -/
abbrev Zone.LifeOk (zn : Zone) : Prop :=
  (zn.monitor = .standby ↔ zn.night = none) ∧
    (∀ nt, zn.night = some nt → (nt.survey = true ↔ zn.monitor = .survey)) ∧
    (∀ nt, zn.night = some nt → (nt.cause.isSome ↔ nt.state = .queued ∨ nt.state = .closing)) ∧
    (zn.stopPending = true → ∃ nt, zn.night = some nt ∧ nt.state = .closing)

/-- R45, R75, R76, R107: the close queue, the engine and the zones' nights agree, and only zones 1 to 255 have a night. -/
abbrev CloseOk (s : State) : Prop :=
  QueueOk s ∧ EngineOk s ∧ (∀ z, (s.zone z).LifeOk) ∧ ∀ z, ¬ ZoneValid z → (s.zone z).night = none

/-! ### Judgement, causes and history (R108, R130, R156) -/

/-- R108, R122, R156: the bounds of a zone's judgement state and history, no hit in WATCH, the leak held flag set in LEAK,
and a baseline while armed. -/
abbrev Zone.JudgeOk (zn : Zone) : Prop :=
  (∀ b, zn.judge.baseline = some b → b ≤ 20000000) ∧ zn.judge.learningCount ≤ 30 ∧ zn.judge.darkCount ≤ 15 ∧
    (zn.monitor = .watch → HitFlag.hit ∉ zn.judge.hitList) ∧ (zn.monitor = .leak → zn.judge.leakHeld = true) ∧
    (zn.monitor.armed = true → zn.judge.baseline.isSome) ∧ zn.ring.length ≤ 16 ∧ zn.unwritten ≤ 65535

/-- R108, R122, R156 for every zone. -/
abbrev JudgeOk (s : State) : Prop := ∀ z, (s.zone z).JudgeOk

/-- R108: no hit list holds more than W flags; while the close of an armed zone is in service, the W it captured is no more
than the setting (R127). -/
abbrev HitsOk (s : State) : Prop :=
  (∀ z, (s.zone z).judge.hitList.length ≤ (s.zone z).params.confirmWindow) ∧
    ∀ c, s.engine = some (.close c) → c.void = false → (s.zone c.zone).monitor.armed = true →
      c.captured.confirmWindow ≤ (s.zone c.zone).params.confirmWindow

/-- R130: for every cause of every zone, a set live value implies a set held value. -/
abbrev CausesOk (s : State) : Prop := ∀ z, (s.zone z).live.subset (s.zone z).held = true

/-! ### Groups (R147, R149) -/

/-- R147: the number of groups whose member lists hold a zone. -/
def membershipCount (s : State) (z : Nat) : Nat := groupNumbers.countP fun g => (s.group g).members.contains z

/-- R147: member lists are ascending, of zones 1 to 255, at most 32 long, and no zone belongs to more than 4 groups. -/
abbrev MembersOk (s : State) : Prop :=
  (∀ g, (s.group g).members.Pairwise (· < ·) ∧ (s.group g).members.length ≤ 32 ∧ ∀ z ∈ (s.group g).members, ZoneValid z) ∧
    ∀ z, membershipCount s z ≤ 4

/-- R149: a combination of member values: ANY is true when one of them is, ALL when there is one and every one is. -/
def Combines (mode : GroupMode) (values : List Bool) : Prop :=
  match mode with
  | .any => true ∈ values
  | .all => values ≠ [] ∧ ∀ v ∈ values, v = true

/-- R148, R149: a group's two values are what its modes and enables make of its counted members as they stand. -/
abbrev SignalsOk (s : State) (gr : Group) : Prop :=
  (gr.leakValue = true ↔ gr.leakEnable = true ∧
    Combines gr.leakMode ((gr.members.filter fun z => (s.zone z).monitor.monitored).map fun z =>
      decide ((s.zone z).monitor = .leak))) ∧
    (gr.integValue = true ↔ gr.integEnable = true ∧
      Combines gr.integMode ((gr.members.filter fun z => (s.zone z).monitor.monitored).map fun z => (s.zone z).summary))

/-- R149: every group's values equal their combination. -/
abbrev GroupsOk (s : State) : Prop := ∀ g ∈ groupNumbers, SignalsOk s (s.group g)

/-! ### Notices of a change (R109, R150, R178) -/

/-- R178: a change of monitor state that the notify settings select. -/
def picksChange (p : Params) (before after : MonitorState) : Bool :=
  decide (before ≠ after ∧
    ((after = .leak ∧ (p.notifyLeak = .rising ∨ p.notifyLeak = .both)) ∨
     (before = .leak ∧ (p.notifyLeak = .falling ∨ p.notifyLeak = .both)) ∨
     ((before = .suspect ∨ after = .suspect) ∧ p.notifySuspect = true)))

/-- R150: the notices of the groups that hold zone `z` and of which an enabled signal differs between two states, in ascending
group number, with the values and enables of the second. -/
def groupNews (s t : State) (z : Nat) : List Notice :=
  ((List.range' 1 32).filter fun g => decide (z ∈ (s.group g).members ∧
    (((s.group g).leakEnable = true ∧ (t.group g).leakValue ≠ (s.group g).leakValue) ∨
     ((s.group g).integEnable = true ∧ (t.group g).integValue ≠ (s.group g).integValue)))).map fun g =>
    .groupChange g (t.group g).leakValue (t.group g).integValue (t.group g).leakEnable (t.group g).integEnable

/-! ### The link (R172 to R174, R177) -/

/-- R177: the notice queue never holds more than 96 notices, nor two with the same kind and subject. -/
abbrev NoticesOk (s : State) : Prop :=
  s.link.notices.length ≤ 96 ∧
    s.link.notices.Pairwise fun a b => a.code ≠ b.code ∨ a.subject ≠ b.subject

/-- R172 to R174: at most 4 frames wait, none with a payload above 1,024 bytes, and a frame in reception has fewer bytes
than it declares. -/
abbrev LinkOk (s : State) : Prop :=
  s.link.intake.length ≤ 4 ∧ (∀ f ∈ s.link.intake, f.payload.length ≤ 1024) ∧
    ∀ got, s.link.receiver = .frame got →
      got.length < 2 ∨ (declaredLength got ≤ 1024 ∧ got.length < declaredLength got + 6)

end Sys2Proof.Machine
end

