-- ==== Sys2Proof/WellFormed.lean ====
section
/-! DEFINITION. Which commands can be sent at all.

A frame's payload is at most 1,024 bytes (R172), and only a kind outside the catalogue of section 12.5 is an unknown
kind (R176). Everything else that can be wrong with a request is answered with a reply code, so it is well formed. -/

namespace Sys2Proof

/-- The payload of a request fits a frame (R172). -/
def Instr.payloadFits (i : Instr) : Bool :=
  match i.frame? with
  | some f => f.payload.length ≤ Config.payloadLimit
  | none => true

/-- An UNKNOWN_KIND request's kind names no message (R176). -/
def Instr.kindIsUnknown : Instr → Bool
  | .unknownKind k _ _ => !catalogue.contains k.toNat
  | _ => true

/-- The command is one the host or the part can bring about. -/
def Instr.wellFormed (i : Instr) : Bool :=
  i.payloadFits && i.kindIsUnknown

end Sys2Proof
end

