-- ==== Sys2Proof/Certificates/Slice0/Obligations.lean ====
section
/-! DEFINITION. The statements for the provers. Each docstring names the rules of spec/ it formalises; where it rests on a
choice of the model it names the log entry. -/

open Sys2Proof Sys2Proof.Machine

/-! ### Steps, frames and replies -/

/-- One step runs the command at the front of the queue with the queue's rest; on an empty queue the part idles (log 1). -/
def Obligations.StepRunsTheFrontCommand : Prop :=
  (∀ (c : Instr) (rest : List Instr) (s : State), step { s with pending := c :: rest } = exec c { s with pending := rest }) ∧
    ∀ s : State, s.pending = [] → step s = .next s

/-- R172 to R174: a ready part whose receiver is in HUNT passes over bytes that are not 0xA5, takes the frame that follows
whatever it carries, and offers it to the intake buffer: it joins at the tail, or, where 4 wait, it is lost and the overrun
marker is set. -/
def Obligations.ReceiverReadsBackEveryFrame : Prop :=
  ∀ (noise : List Byte) (f : Frame) (s : State),
    s.link.power = .ready → s.link.receiver = .hunt → (∀ b ∈ noise, b ≠ 0xA5) → f.payload.length ≤ 1024 →
    exec (.frameReceived (noise ++ frameBytes f)) s =
      .next { s with link :=
        if s.link.intake.length < 4 then { s.link with intake := s.link.intake ++ [f] }
        else { s.link with overrun := true } }

/-- R173: bytes that are not 0xA5 have no effect in HUNT; a length above 1,024 discards the frame at its second length byte;
so does a CRC that differs from the computed one, at the frame's end; and an over-long gap discards a frame in reception. -/
def Obligations.ReceiverDiscardsSilently : Prop :=
  (∀ (noise : List Byte) (s : State), s.link.receiver = .hunt → (∀ b ∈ noise, b ≠ 0xA5) →
    exec (.frameReceived noise) s = .next s) ∧
  (∀ (lo hi : Byte) (s : State), s.link.receiver = .hunt → 1024 < lo.toNat + 256 * hi.toNat →
    exec (.frameReceived [0xA5, lo, hi]) s = .next s) ∧
  (∀ (f : Frame) (c₀ c₁ : Byte) (s : State), s.link.receiver = .hunt → f.payload.length ≤ 1024 →
    c₀.toNat + 256 * c₁.toNat ≠ (crc (frameCovered f)).toNat →
    exec (.frameReceived (0xA5 :: (frameCovered f ++ [c₀, c₁]))) s = .next s) ∧
  ∀ s : State, exec .interByteGap s = .next { s with link := { s.link with receiver := .hunt } }

/-- R174, R175: every request taken leaves the intake buffer and draws one reply with its kind plus 0x80, its tag, and the
flags overrun-before and attention; building it clears the overrun marker. -/
def Obligations.RepliesEchoTheirRequest : Prop :=
  ∀ (c : Instr) (f : Frame) (s : State), c.frame? = some f → c.wellFormed = true → Takes s f.kind f.tag f.payload →
    ∃ t r, exec c s = .next t ∧ t.link.reply = some r ∧ r.kind = f.kind + 0x80 ∧ r.tag = f.tag ∧
      r.flags = BitVec.ofNat 8 (s.link.overrun.toNat + 2 * t.attn.toNat) ∧ t.link.overrun = false ∧
      t.link.intake = s.link.intake.tail ∧ t.pending = s.pending

/-- R176: a request refused at any step changes no state, except that its frame leaves the buffer and building its reply
clears the overrun marker. R175: a refused request's body is empty, but for BAD_FIELD, CLOCK_BACK and READING. -/
def Obligations.RefusedRequestsChangeNothing : Prop :=
  ∀ (c : Instr) (f : Frame) (s t : State) (r : Reply), c.frame? = some f → c.wellFormed = true →
    Takes s f.kind f.tag f.payload → exec c s = .next t → t.link.reply = some r → ¬ r.code.taken →
    t = s.popIntake.replied f.kind f.tag r.code r.body ∧
      (r.body = [] ∨ r.code = .badField ∨ r.code = .clockBack ∨ f.kind = 0x10)

/-- R176 steps 1 and 2: a kind that names no message draws UNKNOWN_KIND; a payload of a wrong length, too short for its fixed
part, or not of the length that its counts in range and its presence bits declare, or with a presence byte that its message does
not define, draws BAD_LENGTH; all with an empty body and no other change. (That an absent field keeps its width, and the width of
METER_READ's key, are the model's reading: log 9, log 10.) -/
def Obligations.MalformedRequestsAreRefused : Prop :=
  (∀ (kind tag : Byte) (p : List Byte) (s : State), kind.toNat ∉ catalogue → Takes s kind tag p →
    exec (.unknownKind kind tag p) s = .next (s.popIntake.replied kind tag .unknownKind [])) ∧
  (∀ (c : Instr) (f : Frame) (n : Nat) (s : State), c.frame? = some f → c.wellFormed = true →
    (fixedLength f.kind.toNat = some n ∧ f.payload.length ≠ n ∨ fixedPart f.kind.toNat = some n ∧ f.payload.length < n) →
    Takes s f.kind f.tag f.payload → exec c s = .next (s.popIntake.replied f.kind f.tag .badLength [])) ∧
  (∀ (c : Instr) (f : Frame) (s : State), c.frame? = some f → c.wellFormed = true → LengthUnmet f.kind.toNat f.payload →
    Takes s f.kind f.tag f.payload → exec c s = .next (s.popIntake.replied f.kind f.tag .badLength [])) ∧
  ∀ (tag : Byte) (n : Nat) (good : List ReadingRecord) (rest : List Byte) (events : List Nat) (s : State), 1 ≤ n → n ≤ 16 →
    (∀ r ∈ good, r.Fits) →
    (good.length < n ∧ (rest.length < 14 ∨ 3 < fieldAt rest 8 1 ∨
        rest.length < 14 + 5 * (fieldAt rest 8 1 % 2) + fieldAt rest 8 1 / 2) ∨
      good.length = n ∧ rest ≠ []) →
    Takes s 0x11 tag (putNat 1 n ++ good.flatMap putRecord ++ rest) →
    exec (.readingBatch tag (putNat 1 n ++ good.flatMap putRecord ++ rest) events) s =
      .next (s.popIntake.replied 0x11 tag .badLength [])

/-- R183, R184: while a RESTART waits to take effect, and while the part is not ready, no request is taken and no start or
completion occurs; while it is not ready no byte is received either. A command whose step cannot occur leaves the state as it
is (the model's choice, log 3), and so does a start with an item in service or an empty queue, a completion with none in
service, and a request behind another one (log 2). -/
def Obligations.NothingIsTakenWhileHeld : Prop :=
  (∀ (c : Instr) (s : State),
    (s.link.restart ≠ none ∨ s.link.power ≠ .ready) →
    (c.frame?.isSome ∨ c = .closeStart ∨ c = .testRunStart ∨ c = .closeCompletion ∨ c = .testRunCompletion ∨
      (s.link.power ≠ .ready ∧ ∃ bytes, c = .frameReceived bytes)) →
    exec c s = .next s) ∧
  (∀ s : State, s.engine ≠ none ∨ s.closeQueue = [] → exec .closeStart s = .next s ∧ exec .testRunStart s = .next s) ∧
  (∀ s : State, s.engine = none → exec .closeCompletion s = .next s ∧ exec .testRunCompletion s = .next s) ∧
  (∀ s : State, s.link.restart = none → exec .restartTakesEffect s = .next s) ∧
  ∀ (c : Instr) (f g : Frame) (s : State), c.frame? = some f → s.link.intake.head? = some g → g ≠ f → exec c s = .next s

/-- What no request changes: the power phase, the line rate and the receiver; the pending restart, but for RESTART; the notices
and the overflow marker, but for the requests that raise or fetch notices. And what only GROUP_SET and the resets change: the
definitions of the groups. -/
def Obligations.RequestsKeepTheLinkAndGroups : Prop :=
  (∀ (c : Instr) (f : Frame) (s t : State), c.frame? = some f → exec c s = .next t →
    t.link.power = s.link.power ∧ t.link.lineRate = s.link.lineRate ∧ t.link.receiver = s.link.receiver ∧
      (f.kind ≠ 0x52 → t.link.restart = s.link.restart) ∧
      (f.kind.toNat ∉ [0x11, 0x18, 0x20, 0x21, 0x22, 0x23, 0x26, 0x27, 0x28, 0x30, 0x50] →
        t.link.notices = s.link.notices ∧ t.link.overflow = s.link.overflow)) ∧
  ∀ (c : Instr) (s t : State), exec c s = .next t → (∀ tag p, c ≠ .groupSet tag p) → c ≠ .restartTakesEffect →
    (∀ high, c ≠ .resetPinRelease high) →
    ∀ g, { t.group g with leakValue := (s.group g).leakValue, integValue := (s.group g).integValue } = s.group g

/-! ### Bytes (section 12.6, R186) -/

/-- R18, R20, R186: the fields of each request with several fields are read back from the bytes that carry them; so are 1 to
16 reading records, each in its own length of 14 to 20 bytes. (The width of METER_READ's key is the model's reading, log 10; so is
what an absent field's bytes hold, log 9.) -/
def Obligations.RequestFieldsReadBack : Prop :=
  (∀ r : AddMeterReq, r.serial < 2 ^ 32 → r.spec.Fits → parseAddMeter (putAddMeter r) = some r) ∧
  (∀ r : AttachReq, r.serial < 2 ^ 32 → r.fromZone < 256 → r.toZone < 256 → parseAttach (putAttach r) = some r) ∧
  (∀ r : ReplaceReq, r.serial < 2 ^ 32 → (∀ n ∈ r.newSerial, n < 2 ^ 32) → r.spec.Fits → r.time < 2 ^ 32 →
    r.forward < 2 ^ 40 → (∀ v ∈ r.reverse, v < 2 ^ 40) → (∀ q ∈ r.sequence, q < 256) →
    parseReplace (putReplace r) = some r) ∧
  (∀ r : MeterReadReq, r.selector < 256 → r.key < 2 ^ 32 → parseMeterRead (putMeterRead r) = some r) ∧
  (∀ es : List (Nat × Int), 1 ≤ es.length → es.length ≤ 4 → (∀ e ∈ es, EntryFits e) →
    parsePartSet (putPartSet es) = some ⟨es.length, es⟩) ∧
  (∀ (z : Nat) (es : List (Nat × Int)), z < 256 → 1 ≤ es.length → es.length ≤ 20 → (∀ e ∈ es, EntryFits e) →
    parseZoneSet (putZoneSet z es) = some ⟨z, es.length, es⟩) ∧
  (∀ r : ZoneStartReq, r.zone < 256 → r.mode < 256 → (∀ b ∈ r.seed, b < 2 ^ 32) →
    parseZoneStart (putZoneStart r) = some r) ∧
  (∀ r : GroupSetReq, r.group < 256 → r.leakMode < 256 → r.leakEnable < 256 → r.integMode < 256 → r.integEnable < 256 →
    r.count ≤ 32 → r.members.length = r.count → (∀ z ∈ r.members, z < 256) → parseGroupSet (putGroupSet r) = some r) ∧
  (∀ r : HistoryReadReq, r.zone < 256 → r.first < 256 → r.count < 256 → parseHistoryRead (putHistoryRead r) = some r) ∧
  (∀ rs : List ReadingRecord, 1 ≤ rs.length → rs.length ≤ 16 → (∀ r ∈ rs, r.Fits) →
    parseBatch (putBatch rs) = some ⟨rs.length, rs⟩) ∧
  ∀ r : ReadingRecord, r.Fits → parseReading (putRecord r) = some r ∧
    (putRecord r).length = 14 + 5 * r.reverse.isSome.toNat + r.sequence.isSome.toNat

/-- Section 12.6, R15, R108, R137, R141, R142, R156, R160, R170, R182, R186: the coded values, and the bytes of each record of a
frame or a reply, field by field: frame, reading record, published record; and in the order and the widths of R186 (absent
parts, the width of a unit and the order are the model's reading: log 9, log 10, log 11), the meter, the night, the judgement state,
the night record, the profile slot, the capture record, the result record and the engine's state. (The notice record:
NoticeFetchDelivers.) -/
def Obligations.RecordLayouts : Prop :=
  ([MonitorState.standby, .learning, .watch, .suspect, .leak, .survey].map (·.code) = [0, 1, 2, 3, 4, 5] ∧
    [CloseCause.complete, .deadline, .forced].map (·.code) = [1, 2, 3] ∧
    [HitResult.notJudged, .judged .nonHit, .judged .hit].map (·.code) = [0, 1, 2] ∧
    [HitFlag.nonHit, .hit].map (·.code) = [1, 2] ∧ [TestOutcome.pass, .fail, .aborted].map (·.code) = [1, 2, 3] ∧
    [MeterKind.register, .pulse].map (·.code) = [0, 1] ∧ [Flow.oneWay, .twoWay].map (·.code) = [0, 1] ∧
    [MeterState.unbased, .live, .stale].map (·.code) = [0, 1, 2] ∧
    [MeterFault.overrange, .regression, .lostReports, .longGap].map (·.code) = [1, 2, 3, 4] ∧
    [Cause.coverage, .negative, .meter, .dark, .saturated].map (·.code) = [5, 6, 7, 8, 9] ∧
    (∀ f, (FaultKind.meterFault f).code = f.code) ∧ (∀ c, (FaultKind.zoneCause c).code = c.code) ∧
    [NightState.pending, .waiting, .queued, .closing].map (·.code) = [0, 1, 2, 3] ∧
    [GroupMode.any, .all].map (·.code) = [0, 1] ∧ [LeakNotify.off, .rising, .falling, .both].map (·.code) = [0, 1, 2, 3] ∧
    (TestRequest.idle.code = 0 ∧ ∀ n, (TestRequest.queued n).code = 1 ∧ (TestRequest.running n).code = 2) ∧
    [LineRate.baud115200, .baud460800].map (·.code) = [0, 1] ∧
    [ReplyCode.ok, .gap, .late, .duplicate].map (·.code) = [0x00, 0x01, 0x02, 0x03] ∧
    [ReplyCode.unknownKind, .badLength, .badField, .noClock, .alreadyPresent, .directoryFull, .attachFull, .groupFull,
      .zoneActive, .notActive, .noMeters, .noNight, .clockBack, .unknownMeter, .notEnded, .tooLate, .outOfOrder, .conflict,
      .futureTime, .busy, .alreadyHeld, .notHeld].map (·.code) = List.range' 0x10 22 ∧
    ∀ c : CauseSet, (c.code.testBit 0 = c.coverage ∧ c.code.testBit 1 = c.negative ∧ c.code.testBit 2 = c.meter ∧
      c.code.testBit 3 = c.dark ∧ c.code.testBit 4 = c.saturated) ∧ c.code < 32) ∧
  (∀ (f : Frame), f.payload.length ≤ 1024 →
    let b := frameBytes f
    let n := f.payload.length
    b.length = 7 + n ∧ fieldAt b 0 1 = 0xA5 ∧ fieldAt b 1 2 = n ∧ fieldAt b 3 1 = f.kind.toNat ∧ fieldAt b 4 1 = f.tag.toNat ∧
      slice b 5 n = f.payload ∧ fieldAt b (5 + n) 2 = (crc (slice b 1 (4 + n))).toNat) ∧
  (∀ r : Reply, r.frame.kind = r.kind ∧ r.frame.tag = r.tag ∧ fieldAt r.frame.payload 0 1 = r.code.code ∧
    fieldAt r.frame.payload 1 1 = r.flags.toNat ∧ r.frame.payload.drop 2 = r.body) ∧
  (∀ r : ReadingRecord, r.Fits →
    let b := putRecord r
    fieldAt b 0 4 = r.serial ∧ fieldAt b 4 4 = r.time ∧ (fieldAt b 8 1).testBit 0 = r.reverse.isSome ∧
      (fieldAt b 8 1).testBit 1 = r.sequence.isSome ∧ fieldAt b 8 1 ≤ 3 ∧ fieldAt b 9 5 = r.forward ∧
      (∀ v ∈ r.reverse, fieldAt b 14 5 = v) ∧ ∀ q ∈ r.sequence, fieldAt b (if r.reverse.isSome then 19 else 14) 1 = q) ∧
  (∀ (source : Nat) (p : Published), source ≤ 1 → -1 ≤ p.label → p.label ≤ 49712 →
    (∀ f ∈ p.mnf, -20000000 ≤ f ∧ f ≤ 20000000) → (∀ e ∈ p.estimate, e ≤ 20000000) → (∀ b ∈ p.baseline, b ≤ 20000000) →
    (∀ e ∈ p.excess, -40000000 ≤ e ∧ e ≤ 40000000) → p.covered ≤ 16 → p.missing ≤ 16 →
    let b := putPublished source (some p)
    b.length = 29 ∧ fieldAt b 0 1 = source ∧ getInt (slice b 1 4) = p.label ∧
    (∀ c, p.cause = some c → fieldAt b 5 1 = c.code) ∧
    (fieldAt b 6 1).testBit 0 = p.valid ∧ (fieldAt b 6 1).testBit 1 = p.excluded ∧ (fieldAt b 6 1).testBit 2 = p.survey ∧
    (fieldAt b 6 1).testBit 3 = p.held ∧ (fieldAt b 6 1).testBit 4 = p.saturated ∧
    (fieldAt b 7 1).testBit 0 = p.mnf.isSome ∧ (fieldAt b 7 1).testBit 1 = p.estimate.isSome ∧
    (fieldAt b 7 1).testBit 2 = p.baseline.isSome ∧ (fieldAt b 7 1).testBit 3 = p.excess.isSome ∧
    getInt (slice b 8 4) = p.mnf.getD 0 ∧ fieldAt b 12 4 = p.estimate.getD 0 ∧ fieldAt b 16 4 = p.baseline.getD 0 ∧
    getInt (slice b 20 4) = p.excess.getD 0 ∧ fieldAt b 24 1 = p.hit.code ∧ fieldAt b 25 1 = p.covered ∧
    fieldAt b 26 1 = p.missing ∧ fieldAt b 27 1 = p.live.code ∧ fieldAt b 28 1 = p.stateAfter.code) ∧
  (∀ source, source ≤ 1 → putPublished source none = BitVec.ofNat 8 (source + 2) :: List.replicate 28 0) ∧
  (∀ w : Nat, (∀ bytes, putOption w (some bytes) = 1 :: bytes) ∧ putOption w none = List.replicate (1 + w) 0) ∧
  (∀ (ch : Nat) (m : Meter), ch < 65536 → m.Fits →
    let b := putMeter ch m
    let from' := fun (side : Side) => if side = .fromSide then 43 else 56
    b.length = 69 ∧ fieldAt b 0 4 = m.serial ∧ fieldAt b 4 2 = ch ∧ fieldAt b 6 1 = m.kind.code ∧ fieldAt b 7 1 = m.flow.code ∧
    fieldAt b 8 2 = m.unit ∧ fieldAt b 10 1 = m.digits.getD 0 ∧ fieldAt b 11 4 = m.qmax ∧ fieldAt b 15 1 = m.fromZone ∧
    fieldAt b 16 1 = m.toZone ∧ fieldAt b 17 1 = m.state.code ∧ fieldAt b 18 1 = m.base.isSome.toNat ∧
    (m.base = none → slice b 19 18 = List.replicate 18 0) ∧
    (∀ x ∈ m.base, fieldAt b 19 4 = x.time ∧ fieldAt b 23 1 = x.forward.isSome.toNat ∧ fieldAt b 24 5 = x.forward.getD 0 ∧
      fieldAt b 29 1 = x.reverse.isSome.toNat ∧ fieldAt b 30 5 = x.reverse.getD 0 ∧
      fieldAt b 35 1 = x.sequence.isSome.toNat ∧ fieldAt b 36 1 = x.sequence.getD 0) ∧
    fieldAt b 37 1 = m.lastFault.elim 0 (·.1.code) ∧ fieldAt b 38 1 = m.lastFault.isSome.toNat ∧
    fieldAt b 39 4 = m.lastFault.elim 0 (·.2) ∧
    ∀ side, fieldAt b (from' side) 1 = (m.coverOn side).isSome.toNat ∧
      (m.coverOn side = none → slice b (from' side + 1) 12 = List.replicate 12 0) ∧
      ∀ c ∈ m.coverOn side, fieldAt b (from' side + 1) 1 = c.runStart.isSome.toNat ∧
        fieldAt b (from' side + 2) 4 = c.runStart.getD 0 ∧ fieldAt b (from' side + 6) 4 = c.runEnd ∧
        fieldAt b (from' side + 10) 2 = c.mask.toNat ∧ fieldAt b (from' side + 12) 1 = c.faulted.toNat) ∧
  (∀ nt : Night, nt.Fits →
    let b := putNight nt
    b.length = 24 ∧ getInt (slice b 0 4) = nt.label ∧ fieldAt b 4 5 = nt.ws ∧ fieldAt b 9 5 = nt.we ∧
      fieldAt b 14 5 = nt.deadline ∧ fieldAt b 19 1 = nt.state.code ∧ fieldAt b 20 1 = nt.cause.isSome.toNat ∧
      fieldAt b 21 1 = nt.cause.elim 0 (·.code) ∧ fieldAt b 22 1 = nt.excluded.toNat ∧ fieldAt b 23 1 = nt.survey.toNat) ∧
  (∀ j : Judgement, j.Fits →
    let b := putJudgement j
    let n := j.hitList.length
    b.length = 15 + n ∧ fieldAt b 0 1 = j.baseline.isSome.toNat ∧ fieldAt b 1 4 = j.baseline.getD 0 ∧
      fieldAt b 5 1 = j.learningCount ∧ fieldAt b 6 1 = n ∧
      (∀ (i : Nat) (flag : HitFlag), j.hitList[i]? = some flag → fieldAt b (7 + i) 1 = flag.code) ∧
      fieldAt b (7 + n) 1 = j.nonHitRun ∧ fieldAt b (8 + n) 1 = j.darkCount ∧ fieldAt b (9 + n) 1 = j.leakHeld.toNat ∧
      fieldAt b (10 + n) 1 = j.lastMnf.isSome.toNat ∧ getInt (slice b (11 + n) 4) = j.lastMnf.getD 0) ∧
  (∀ r : NightRecord, r.Fits →
    let b := putNightRecord r
    b.length = 45 ∧ getInt (slice b 0 4) = r.label ∧ fieldAt b 4 5 = r.ws ∧ (∀ c ∈ r.cause, fieldAt b 9 1 = c.code) ∧
      fieldAt b 10 4 = r.closeTime ∧ fieldAt b 14 1 = r.valid.toNat ∧ fieldAt b 15 1 = r.excluded.toNat ∧
      fieldAt b 16 1 = r.survey.toNat ∧ fieldAt b 17 1 = r.saturated.toNat ∧ fieldAt b 18 1 = r.pubHeld.toNat ∧
      fieldAt b 19 1 = r.mnf.isSome.toNat ∧ getInt (slice b 20 4) = r.mnf.getD 0 ∧
      fieldAt b 24 1 = r.estimate.isSome.toNat ∧ fieldAt b 25 4 = r.estimate.getD 0 ∧
      fieldAt b 29 1 = r.baseline.isSome.toNat ∧ fieldAt b 30 4 = r.baseline.getD 0 ∧
      fieldAt b 34 1 = r.excess.isSome.toNat ∧ getInt (slice b 35 4) = r.excess.getD 0 ∧ fieldAt b 39 1 = r.hit.code ∧
      fieldAt b 40 1 = r.covered ∧ fieldAt b 41 1 = r.missing ∧ fieldAt b 42 1 = r.live.code ∧
      fieldAt b 43 1 = r.stateAfter.code ∧ fieldAt b 44 1 = r.leakEntered.toNat) ∧
  (∀ p : ProfileSlot, (∀ v ∈ p.volume, -(2 ^ 63) ≤ v ∧ v < 2 ^ 63) → p.count < 256 →
    let b := putProfileSlot p
    b.length = 10 ∧ fieldAt b 0 1 = p.volume.isSome.toNat ∧ getInt (slice b 1 8) = p.volume.getD 0 ∧ fieldAt b 9 1 = p.count) ∧
  (∀ c : Capture, c.Fits →
    let b := putCapture (some c)
    b.length = 14 ∧ fieldAt b 0 1 = 1 ∧ fieldAt b 1 1 = c.kind.code ∧ fieldAt b 2 1 = c.serial.isSome.toNat ∧
      fieldAt b 3 4 = c.serial.getD 0 ∧ fieldAt b 7 1 = c.zone.isSome.toNat ∧ fieldAt b 8 1 = c.zone.getD 0 ∧
      fieldAt b 9 4 = c.time ∧ fieldAt b 13 1 = c.later.toNat) ∧
  putCapture none = List.replicate 14 0 ∧
  (∀ r : TestResult, r.Fits →
    let b := putTestResult r
    b.length = 17 ∧ fieldAt b 0 1 = r.test ∧ fieldAt b 1 1 = r.outcome.code ∧ fieldAt b 2 1 = r.failCase.isSome.toNat ∧
      fieldAt b 3 1 = r.failCase.getD 0 ∧ fieldAt b 4 1 = r.failMeter.isSome.toNat ∧
      fieldAt b 5 1 = r.failMeter.elim 0 (·.zone) ∧ fieldAt b 6 4 = r.failMeter.elim 0 (·.serial) ∧
      fieldAt b 10 2 = r.failMeter.elim 0 (·.channel) ∧ fieldAt b 12 1 = r.clock.isSome.toNat ∧
      fieldAt b 13 4 = r.clock.getD 0) ∧
  putEngine none = List.replicate 7 0 ∧ putEngine (some .testRun) = [1, 1, 1, 0, 0, 0, 0] ∧
  ∀ c : CloseItem, putEngine (some (.close c)) = [1, 1, 0, 1, BitVec.ofNat 8 c.zone, 1, BitVec.ofNat 8 c.void.toNat]

/-! ### Notices and ATTN -/

/-- R177: a raised notice updates a queued one of its kind and subject in place (ZONE_STATE keeps its from state, CAUSE_HELD
takes the union, the others take the new values), joins the tail of a queue of fewer than 96, or is dropped with the overflow
marker set; a raise changes nothing else. -/
def Obligations.RaisedNoticesCoalesce : Prop :=
  ∀ (s : State) (n : Notice),
    let q := s.link.notices
    let q' := (s.raise n).link.notices
    s.raise n = { s with link := { s.link with notices := q', overflow := (s.raise n).link.overflow } } ∧
    ((∀ m ∈ q, m.code ≠ n.code ∨ m.subject ≠ n.subject) → q.length < 96 →
      q' = q ++ [n] ∧ (s.raise n).link.overflow = s.link.overflow) ∧
    ((∀ m ∈ q, m.code ≠ n.code ∨ m.subject ≠ n.subject) → 96 ≤ q.length →
      q' = q ∧ (s.raise n).link.overflow = true) ∧
    ((∃ m ∈ q, m.code = n.code ∧ m.subject = n.subject) →
      q'.length = q.length ∧ (s.raise n).link.overflow = s.link.overflow ∧
      (∀ (i : Nat) (m : Notice), q[i]? = some m → (m.code ≠ n.code ∨ m.subject ≠ n.subject) → q'[i]? = some m) ∧
      (∀ (i z : Nat) (before mid after last : MonitorState), q[i]? = some (.zoneState z before mid) →
        n = .zoneState z after last → q'[i]? = some (.zoneState z before last)) ∧
      (∀ (i z : Nat) (a b : CauseSet), q[i]? = some (.causeHeld z a) → n = .causeHeld z b →
        q'[i]? = some (.causeHeld z (a.union b))) ∧
      ∀ (i : Nat) (m : Notice), q[i]? = some m → m.code = n.code → m.subject = n.subject → n.code ≠ 2 → n.code ≠ 3 →
        q'[i]? = some n)

/-- R179: NOTICE_FETCH delivers the OVERFLOW item where the marker is set, then the oldest notices, 8 items at most, removes
what it delivers and clears the marker. Section 12.6: the 11 bytes of a notice record, by its kind. -/
def Obligations.NoticeFetchDelivers : Prop :=
  (∀ (tag : Byte) (s : State), Takes s 0x50 tag [] →
    let marker := s.link.overflow.toNat
    let k := min s.link.notices.length (8 - marker)
    exec (.noticeFetch tag []) s =
      .next ({ s.popIntake with link :=
          { s.popIntake.link with notices := s.link.notices.drop k, overflow := false } }.replied 0x50 tag .ok
        (putNat 1 (k + marker) ++ putNat 1 (s.link.notices.length - k) ++
          (if s.link.overflow then putNat 1 7 ++ putNat 10 0 else []) ++ (s.link.notices.take k).flatMap putNotice))) ∧
  ∀ n : Notice, n.Fits →
    let b := putNotice n
    let head := fun (kind subject : Nat) => b.length = 11 ∧ fieldAt b 0 1 = kind ∧ fieldAt b 1 4 = subject
    match n with
    | .nightClosed z label cause after valid =>
      head 1 z ∧ getInt (slice b 5 4) = label ∧ (∀ c ∈ cause, fieldAt b 9 1 = c.code) ∧
        fieldAt b 10 1 = after.code + 128 * valid.toNat
    | .zoneState z before after =>
      head 2 z ∧ fieldAt b 5 1 = before.code ∧ fieldAt b 6 1 = after.code ∧ slice b 7 4 = [0, 0, 0, 0]
    | .causeHeld z causes => head 3 z ∧ fieldAt b 5 1 = causes.code ∧ slice b 6 5 = [0, 0, 0, 0, 0]
    | .groupChange g leak integ leakEnable integEnable =>
      head 4 g ∧ fieldAt b 5 1 = leak.toNat + 2 * integ.toNat + 4 * leakEnable.toNat + 8 * integEnable.toNat ∧
        slice b 6 5 = [0, 0, 0, 0, 0]
    | .meterStale serial ch time => head 5 serial ∧ fieldAt b 5 2 = ch ∧ fieldAt b 7 4 = time
    | .testDone test outcome =>
      head 6 0 ∧ fieldAt b 5 1 = test ∧ fieldAt b 6 1 = outcome.code ∧ slice b 7 4 = [0, 0, 0, 0]

/-- R180: ATTN is asserted exactly while the queue holds a notice or the overflow marker is set, and never while the reset pin
is asserted; it is deasserted after every reset; and every reply reports it in its attention flag. -/
def Obligations.AttnFollowsTheQueue : Prop :=
  (∀ s : State, s.attn = true ↔ s.link.power ≠ .inReset ∧ (s.link.notices ≠ [] ∨ s.link.overflow = true)) ∧
  (∀ s t : State, exec .resetPinAssert s = .next t → t.attn = false) ∧
  (∀ (high : Bool) (s t : State), s.link.power = .inReset → exec (.resetPinRelease high) s = .next t → t.attn = false) ∧
  (∀ s t : State, s.link.restart ≠ none → exec .restartTakesEffect s = .next t → t.attn = false) ∧
  ∀ (c : Instr) (f : Frame) (s t : State) (r : Reply), c.frame? = some f → c.wellFormed = true →
    Takes s f.kind f.tag f.payload → exec c s = .next t → t.link.reply = some r → r.flags.getLsbD 1 = t.attn

/-- R172 to R174, R177: at most 4 frames wait and 96 notices, no two notices with one kind and subject, and a frame in
reception has fewer bytes than it declares; every step keeps this. -/
def Obligations.LinkStaysWithinBounds : Prop :=
  ∀ s t : State, LinkOk s → NoticesOk s → step s = .next t → LinkOk t ∧ NoticesOk t

/-! ### Part settings, reads, restart and reset -/

/-- R181: an accepted PART_SET writes every entry's value to its setting and reports all four settings; the first failing
check of a refused one decides the field that BAD_FIELD names. (The widths of the settings in the reply, 1, 2 and 1 bytes and a
signed 4 for the offset, are the model's reading of R186: log 10.) -/
def Obligations.PartSetWritesSettings : Prop :=
  (∀ (tag : Byte) (es : List (Nat × Int)) (s : State), 1 ≤ es.length → es.length ≤ 4 → (es.map (·.1)).Nodup →
    (∀ e ∈ es, PartEntryOk e) → Takes s 0x19 tag (putPartSet es) →
    ∃ c : PartSettings,
      exec (.partSet tag (putPartSet es)) s =
        .next ({ s.popIntake with settings := c }.replied 0x19 tag .ok
          (putNat 1 c.gapLimit ++ putNat 2 c.skew ++ putNat 1 c.staleLimit ++ putInt 4 c.offset)) ∧
      (∀ v, (1, v) ∈ es → (c.gapLimit : Int) = v) ∧ ((∀ v, (1, v) ∉ es) → c.gapLimit = s.settings.gapLimit) ∧
      (∀ v, (2, v) ∈ es → (c.skew : Int) = v) ∧ ((∀ v, (2, v) ∉ es) → c.skew = s.settings.skew) ∧
      (∀ v, (3, v) ∈ es → (c.staleLimit : Int) = v) ∧ ((∀ v, (3, v) ∉ es) → c.staleLimit = s.settings.staleLimit) ∧
      (∀ v, (4, v) ∈ es → c.offset = v) ∧ ((∀ v, (4, v) ∉ es) → c.offset = s.settings.offset)) ∧
  (∀ (tag : Byte) (n : Nat) (p : List Byte) (s : State), n < 256 → (n = 0 ∨ 4 < n) → Takes s 0x19 tag (putNat 1 n ++ p) →
    exec (.partSet tag (putNat 1 n ++ p)) s = .next (s.popIntake.replied 0x19 tag .badField (putNat 1 1))) ∧
  ∀ (tag : Byte) (good rest : List (Nat × Int)) (e : Nat × Int) (s : State),
    (good ++ e :: rest).length ≤ 4 → (good.map (·.1)).Nodup → (∀ g ∈ good, PartEntryOk g) →
    (∀ g ∈ e :: rest, EntryFits g) → Takes s 0x19 tag (putPartSet (good ++ e :: rest)) →
    (e.1 < 1 ∨ 4 < e.1 ∨ e.1 ∈ good.map (·.1) →
      exec (.partSet tag (putPartSet (good ++ e :: rest))) s =
        .next (s.popIntake.replied 0x19 tag .badField (putNat 1 (2 * (good.length + 1))))) ∧
    (1 ≤ e.1 → e.1 ≤ 4 → e.1 ∉ good.map (·.1) → ¬ PartEntryOk e →
      exec (.partSet tag (putPartSet (good ++ e :: rest))) s =
        .next (s.popIntake.replied 0x19 tag .badField (putNat 1 (2 * (good.length + 1) + 1))))

/-- R15, R137, R141, R142, R144, R153, R160, R170, R182: METER_READ by serial and by channel, ZONE_READ, ZONE_PROFILE, HISTORY_READ,
CAPTURE_READ, GROUP_READ, TEST_READ and PART_STATUS answer OK with what they report as it stands, and change no state; while a
report set is held, ZONE_READ's published record and GROUP_READ's two values, and nothing else, come from the set. METER_READ,
ZONE_PROFILE, HISTORY_READ and GROUP_READ are refused by the first check that fails. (The width of METER_READ's key and of the
part settings in PART_STATUS, absent parts, the order of items and the codes of GROUP_READ's source are the model's reading or
choice: log 10, log 9 and 11, log 12, log 21. What the records' bytes are: RecordLayouts.) -/
def Obligations.ReadsReportWhatStands : Prop :=
  (∀ (tag : Byte) (serial ch : Nat) (m : Meter) (s : State), SerialValid serial → s.meterBySerial serial = some (ch, m) →
    Takes s 0x05 tag (putMeterRead ⟨0, serial⟩) →
    exec (.meterRead tag (putMeterRead ⟨0, serial⟩)) s = .next (s.popIntake.replied 0x05 tag .ok (putMeter ch m))) ∧
  (∀ (tag : Byte) (ch : Nat) (m : Meter) (s : State), ch < 2048 → s.meter? ch = some m →
    Takes s 0x05 tag (putMeterRead ⟨1, ch⟩) →
    exec (.meterRead tag (putMeterRead ⟨1, ch⟩)) s = .next (s.popIntake.replied 0x05 tag .ok (putMeter ch m))) ∧
  (∀ (tag : Byte) (r : MeterReadReq) (s : State), r.selector < 256 → r.key < 2 ^ 32 → Takes s 0x05 tag (putMeterRead r) →
    let answers := fun code body => exec (.meterRead tag (putMeterRead r)) s = .next (s.popIntake.replied 0x05 tag code body)
    (1 < r.selector → answers .badField (putNat 1 1)) ∧
    (r.selector = 0 → ¬ SerialValid r.key → answers .badField (putNat 1 2)) ∧
    (r.selector = 1 → 2048 ≤ r.key → answers .badField (putNat 1 2)) ∧
    (r.selector = 0 → SerialValid r.key → s.meterBySerial r.key = none → answers .unknownMeter []) ∧
    (r.selector = 1 → r.key < 2048 → s.meter? r.key = none → answers .unknownMeter [])) ∧
  (∀ (tag : Byte) (z : Nat) (s : State), ZoneValid z → Takes s 0x29 tag (putNat 1 z) →
    let zn := s.zone z
    exec (.zoneRead tag (putNat 1 z)) s =
      .next (s.popIntake.replied 0x29 tag .ok
        (((List.range' 1 20).flatMap fun id => putInt 4 (zn.setting id)) ++
          ((List.range' 1 5).flatMap fun id => putOptNat 4 (zn.pendingCopy id)) ++ putNat 1 zn.attach.length ++
          putOption 24 (zn.night.map putNight) ++ putNat 1 zn.monitor.code ++ putBool zn.stopPending ++
          putJudgement zn.judge ++ putNat 1 zn.live.code ++ putNat 1 zn.held.code ++ putBool zn.summary ++
          (match s.report with
            | some set => putPublished 1 (set.zones.getD (z - 1) none)
            | none => putPublished 0 zn.published)))) ∧
  (∀ (tag : Byte) (z : Nat) (p : Profile) (s : State), ZoneValid z → (s.zone z).profile = some p →
    Takes s 0x2A tag (putNat 1 z) →
    exec (.zoneProfile tag (putNat 1 z)) s =
      .next (s.popIntake.replied 0x2A tag .ok
        (putInt 4 p.label ++ putNat 1 p.slots.length ++ putNat 1 p.attachCount ++ p.slots.flatMap putProfileSlot))) ∧
  (∀ (tag : Byte) (z : Nat) (s : State), ZoneValid z → (s.zone z).profile = none → Takes s 0x2A tag (putNat 1 z) →
    exec (.zoneProfile tag (putNat 1 z)) s = .next (s.popIntake.replied 0x2A tag .noNight [])) ∧
  (∀ (tag : Byte) (r : HistoryReadReq) (s : State), ZoneValid r.zone → r.first ≤ 15 → 1 ≤ r.count → r.count ≤ 8 →
    r.first < (s.zone r.zone).ring.length → Takes s 0x38 tag (putHistoryRead r) →
    exec (.historyRead tag (putHistoryRead r)) s =
      .next (s.popIntake.replied 0x38 tag .ok
        (putNat 1 (s.zone r.zone).ring.length ++ putBool (s.zone r.zone).frozen ++ putNat 2 (s.zone r.zone).unwritten ++
          (((s.zone r.zone).ring.drop r.first).take r.count).flatMap putNightRecord))) ∧
  (∀ (tag : Byte) (r : HistoryReadReq) (s : State), ZoneValid r.zone → r.first < 256 → r.count < 256 →
    Takes s 0x38 tag (putHistoryRead r) →
    let answers := fun code body => exec (.historyRead tag (putHistoryRead r)) s = .next (s.popIntake.replied 0x38 tag code body)
    (15 < r.first → answers .badField (putNat 1 2)) ∧
    (r.first ≤ 15 → (r.count = 0 ∨ 8 < r.count) → answers .badField (putNat 1 3)) ∧
    (r.first ≤ 15 → 1 ≤ r.count → r.count ≤ 8 → (s.zone r.zone).ring.length ≤ r.first → answers .noNight [])) ∧
  (∀ (tag : Byte) (s : State), Takes s 0x42 tag [] →
    exec (.captureRead tag []) s = .next (s.popIntake.replied 0x42 tag .ok (putCapture s.capture))) ∧
  (∀ (tag : Byte) (g : Nat) (s : State), 1 ≤ g → g ≤ 32 → Takes s 0x31 tag (putNat 1 g) →
    let gr := s.group g
    let counted := gr.members.filter fun z => (s.zone z).monitor.monitored
    exec (.groupRead tag (putNat 1 g)) s =
      .next (s.popIntake.replied 0x31 tag .ok
        (putNat 1 gr.members.length ++ gr.members.flatMap (putNat 1) ++ putNat 1 gr.leakMode.code ++
          putNat 1 gr.integMode.code ++ putBool gr.leakEnable ++ putBool gr.integEnable ++
          putNat 1 counted.length ++ putNat 1 (counted.countP fun z => decide ((s.zone z).monitor = .leak)) ++
          putNat 1 counted.length ++ putNat 1 (counted.countP fun z => (s.zone z).summary) ++
          (match s.report with
            | some set => putBool (set.groups.getD (g - 1) (false, false)).1 ++
                putBool (set.groups.getD (g - 1) (false, false)).2 ++ putNat 1 1
            | none => putBool gr.leakValue ++ putBool gr.integValue ++ putNat 1 0)))) ∧
  (∀ (tag : Byte) (g : Nat) (s : State), g < 256 → (g = 0 ∨ 32 < g) → Takes s 0x31 tag (putNat 1 g) →
    exec (.groupRead tag (putNat 1 g)) s = .next (s.popIntake.replied 0x31 tag .badField (putNat 1 1))) ∧
  (∀ (tag : Byte) (s : State), Takes s 0x4A tag [] →
    exec (.testRead tag []) s =
      .next (s.popIntake.replied 0x4A tag .ok
        (putNat 1 s.test.request.code ++ putOptNat 1 s.test.request.number ++
          putOption 17 (s.test.result.map putTestResult)))) ∧
  ∀ (tag : Byte) (s : State), Takes s 0x51 tag [] →
    exec (.partStatus tag []) s =
      .next (s.popIntake.replied 0x51 tag .ok
        (putOptNat 4 s.clock ++ putPartSettings s.settings ++ putNat 1 s.link.lineRate.code ++ putEngine s.engine ++
          putNat 2 s.closeQueue.length ++ putNat 2 s.meters.length ++ putNat 1 s.link.notices.length ++
          putBool s.link.overflow ++ putBool s.report.isSome ++ putNat 1 s.test.request.code))

/-- R183, R185 and the reset table of each chapter: a valid RESTART is answered OK, with the clock, before it takes effect, and
a level outside RUNTIME and FULL draws BAD_FIELD naming field 1; RESTART FULL leaves every block as after a pin reset, with the
line rate kept; RESTART RUNTIME keeps the directory, the settings (pending copies applied), the attachments and the group
definitions, and clears the rest. The reply last sent stays in the model's transmitter (log 8). -/
def Obligations.RestartIsAnsweredThenTakesEffect : Prop :=
  (∀ (tag : Byte) (level : Nat) (s : State), level < 256 → Takes s 0x52 tag (putNat 1 level) →
    exec (.restart tag (putNat 1 level)) s =
      .next (if level = 0 ∨ level = 1 then
          { s.popIntake with link :=
            { s.popIntake.link with restart := some (if level = 0 then .runtime else .full) } }.replied 0x52 tag .ok
              (putOptNat 4 s.clock)
        else s.popIntake.replied 0x52 tag .badField (putNat 1 1))) ∧
  (∀ s : State, s.link.restart = some .full →
    exec .restartTakesEffect s =
      .next { State.reset with
        pending := s.pending
        freeCount := s.freeCount
        link := { State.reset.link with power := s.link.power, lineRate := s.link.lineRate, reply := s.link.reply } }) ∧
  ∀ s : State, s.link.restart = some .runtime → TablesOk s →
    ∃ meters zones groups,
      exec .restartTakesEffect s =
        .next { State.reset with
          pending := s.pending
          freeCount := s.freeCount
          link := { State.reset.link with power := s.link.power, lineRate := s.link.lineRate, reply := s.link.reply }
          settings := s.settings
          serials := s.serials
          meters := meters
          zones := zones
          groups := groups } ∧
      (∀ ch, Table.find? meters ch = (s.meter? ch).map fun m =>
        { m with
          fromCover := if m.fromZone = 0 then none else some Cover.empty
          toCover := if m.toZone = 0 then none else some Cover.empty }) ∧
      (∀ z, Table.read Zone.reset zones z =
        { Zone.reset with
          geometry := (s.zone z).applyStaged.geometry
          params := (s.zone z).params
          attach := (s.zone z).attach }) ∧
      ∀ g, Table.read Group.reset groups g = { s.group g with leakValue := false, integValue := false }

/-- R171, R184, R185: the reset pin asserted abandons every operation, discards every night, forms the groups' values again
(R107, R149) and holds ATTN deasserted; its release gives every block its pin-reset state and takes the line rate from the strap;
the part then becomes ready. What the blocks hold meanwhile is the model's choice (log 14), and so is a step that does not occur
(log 3). -/
def Obligations.PinResetSequence : Prop :=
  (∀ s : State, ∃ t, exec .resetPinAssert s = .next t ∧ t.link.power = .inReset ∧ t.attn = false ∧
    t.link.receiver = .hunt ∧ t.link.reply = none ∧ t.link.restart = none ∧ t.engine = none ∧ t.closeQueue = [] ∧
    t.test = ⟨.idle, none⟩ ∧
    (∀ z, ZoneValid z → (t.zone z).night = none ∧ (t.zone z).monitor = .standby ∧ (t.zone z).stopPending = false) ∧
    ∀ g ∈ groupNumbers, SignalsOk t (t.group g)) ∧
  (∀ (high : Bool) (s : State), exec (.resetPinRelease high) s =
    .next (if s.link.power = .inReset then
        { State.reset with
          pending := s.pending
          freeCount := s.freeCount
          link := { State.reset.link with
            power := .starting, lineRate := if high then .baud460800 else .baud115200 } }
      else s)) ∧
  ∀ s : State, exec .startupReady s =
    .next (if s.link.power = .starting then { s with link := { s.link with power := .ready } } else s)

/-- The invariants of the part hold right after reset. -/
def Obligations.ResetMeetsEveryInvariant : Prop :=
  TablesOk State.reset ∧ DirectoryOk State.reset ∧ AttachOk State.reset ∧ SettingsOk State.reset ∧ CloseOk State.reset ∧
    JudgeOk State.reset ∧ HitsOk State.reset ∧ CausesOk State.reset ∧ MembersOk State.reset ∧ GroupsOk State.reset ∧
    NoticesOk State.reset ∧ LinkOk State.reset

/-- Log 16: the meter, serial, zone and group tables stay in canonical form. -/
def Obligations.TablesStayCanonical : Prop :=
  ∀ s t : State, TablesOk s → step s = .next t → TablesOk t

/-! ### Meter Directory (Chapter 1) -/

/-- R8: an ADD_METER that passes its checks creates the record at the lowest free channel, enters the serial in the map and
replies with the channel. -/
def Obligations.AddMeterCreatesRecord : Prop :=
  ∀ (tag : Byte) (r : AddMeterReq) (s : State), SerialValid r.serial → r.spec.Valid → s.channelOf r.serial = none →
    s.meters.length < 2048 → Takes s 0x01 tag (putAddMeter r) →
    ∃ ch, ch < 2048 ∧ s.meter? ch = none ∧ (∀ c < ch, s.meter? c ≠ none) ∧
      exec (.addMeter tag (putAddMeter r)) s =
        .next ({ s.popIntake with
          meters := Table.insert s.meters ch
            { serial := r.serial
              kind := if r.spec.kind = 0 then .register else .pulse
              flow := if r.spec.flow = 0 then .oneWay else .twoWay
              unit := r.spec.unit
              digits := if r.spec.kind = 0 then some r.spec.digits else none
              qmax := r.spec.qmax
              fromZone := 0
              toZone := 0
              state := .unbased
              base := none
              lastFault := none
              fromCover := none
              toCover := none }
          serials := Table.insert s.serials r.serial ch }.replied 0x01 tag .ok (putNat 2 ch))

/-- R8, R9, R11, R12: the refusals of ADD_METER, ATTACH_METER, REMOVE_METER and REPLACE_METER. Which field a request names that
fails a range check and a cross-field check is the model's reading (log 13). -/
def Obligations.DirectoryRefusals : Prop :=
  (∀ (tag : Byte) (r : AddMeterReq) (s : State), r.serial < 2 ^ 32 → r.spec.Fits → Takes s 0x01 tag (putAddMeter r) →
    let names := fun field =>
      exec (.addMeter tag (putAddMeter r)) s = .next (s.popIntake.replied 0x01 tag .badField (putNat 1 field))
    (∀ n, 1 ≤ n → n ≤ 6 → (∀ k, k < n → r.FieldInRange k) → ¬ r.FieldInRange n → names n) ∧
    ((∀ k, r.FieldInRange k) → r.spec.kind = 1 → r.spec.flow = 1 → names 3) ∧
    ((∀ k, r.FieldInRange k) → (r.spec.kind = 1 → r.spec.flow = 0) → (r.spec.kind = 0 ↔ r.spec.digits = 0) → names 5) ∧
    (SerialValid r.serial → r.spec.Valid → s.channelOf r.serial ≠ none →
      exec (.addMeter tag (putAddMeter r)) s = .next (s.popIntake.replied 0x01 tag .alreadyPresent [])) ∧
    (SerialValid r.serial → r.spec.Valid → s.channelOf r.serial = none → 2048 ≤ s.meters.length →
      exec (.addMeter tag (putAddMeter r)) s = .next (s.popIntake.replied 0x01 tag .directoryFull []))) ∧
  (∀ (tag : Byte) (r : AttachReq) (s : State), r.serial < 2 ^ 32 → ¬ SerialValid r.serial → r.fromZone < 256 →
    r.toZone < 256 → Takes s 0x04 tag (putAttach r) →
    exec (.attachMeter tag (putAttach r)) s = .next (s.popIntake.replied 0x04 tag .badField (putNat 1 1))) ∧
  (∀ (tag : Byte) (r : AttachReq) (s : State), SerialValid r.serial → r.fromZone < 256 → r.toZone < 256 →
    Takes s 0x04 tag (putAttach r) →
    (r.fromZone = r.toZone → r.fromZone ≠ 0 →
      exec (.attachMeter tag (putAttach r)) s = .next (s.popIntake.replied 0x04 tag .badField (putNat 1 3))) ∧
    ((r.fromZone = r.toZone → r.fromZone = 0) → s.meterBySerial r.serial = none →
      exec (.attachMeter tag (putAttach r)) s = .next (s.popIntake.replied 0x04 tag .unknownMeter [])) ∧
    ∀ ch m, (r.fromZone = r.toZone → r.fromZone = 0) → s.meterBySerial r.serial = some (ch, m) →
      ((∃ z ∈ [m.fromZone, m.toZone, r.fromZone, r.toZone], z ≠ 0 ∧ (s.zone z).monitor ≠ .standby) →
        exec (.attachMeter tag (putAttach r)) s = .next (s.popIntake.replied 0x04 tag .zoneActive [])) ∧
      (AttachOk s → (∀ z ∈ [m.fromZone, m.toZone, r.fromZone, r.toZone], z ≠ 0 → (s.zone z).monitor = .standby) →
        (∃ z ∈ [r.fromZone, r.toZone], z ≠ 0 ∧ ((s.zone z).attach.filter fun e => decide (e.channel ≠ ch)).length = 48) →
        exec (.attachMeter tag (putAttach r)) s = .next (s.popIntake.replied 0x04 tag .attachFull []))) ∧
  (∀ (tag : Byte) (serial : Nat) (s : State), serial < 2 ^ 32 → Takes s 0x02 tag (putNat 4 serial) →
    (¬ SerialValid serial →
      exec (.removeMeter tag (putNat 4 serial)) s = .next (s.popIntake.replied 0x02 tag .badField (putNat 1 1))) ∧
    (SerialValid serial → s.meterBySerial serial = none →
      exec (.removeMeter tag (putNat 4 serial)) s = .next (s.popIntake.replied 0x02 tag .unknownMeter [])) ∧
    ∀ ch m, SerialValid serial → s.meterBySerial serial = some (ch, m) →
      (∃ z ∈ [m.fromZone, m.toZone], z ≠ 0 ∧ (s.zone z).monitor ≠ .standby) →
      exec (.removeMeter tag (putNat 4 serial)) s = .next (s.popIntake.replied 0x02 tag .zoneActive [])) ∧
  ∀ (tag : Byte) (r : ReplaceReq) (s : State), r.Fits → Takes s 0x03 tag (putReplace r) →
    let answers := fun code body => exec (.replaceMeter tag (putReplace r)) s = .next (s.popIntake.replied 0x03 tag code body)
    (∀ n, 1 ≤ n → n ≤ 11 → (∀ k, k < n → r.FieldOk k) → ¬ r.FieldOk n → answers .badField (putNat 1 n)) ∧
    ((∀ k, r.FieldOk k) →
      (s.meterBySerial r.serial = none → answers .unknownMeter []) ∧
      ∀ ch m, s.meterBySerial r.serial = some (ch, m) →
        let taken := ∃ n ∈ r.newSerial, n ≠ r.serial ∧ s.channelOf n ≠ none
        let early := ∃ b ∈ m.base, r.time < b.time
        (taken → answers .alreadyPresent []) ∧ (¬ taken → early → answers .outOfOrder []) ∧
        (¬ taken → ¬ early → (∃ c ∈ s.clock, c + s.settings.skew < r.time) → answers .futureTime []))

/-- R4, R10: an ATTACH_METER that passes its checks sets the meter's zones, rebuilds its cover records, and changes the lists
with them: the meter's old entries leave, its new ones stand in channel order, and nothing else of any zone changes. -/
def Obligations.AttachMeterPlacesMeter : Prop :=
  ∀ (tag : Byte) (r : AttachReq) (ch : Nat) (m : Meter) (s : State), AttachOk s → SerialValid r.serial →
    r.fromZone < 256 → r.toZone < 256 → (r.fromZone = r.toZone → r.fromZone = 0) →
    s.meterBySerial r.serial = some (ch, m) →
    (∀ z ∈ [m.fromZone, m.toZone, r.fromZone, r.toZone], z ≠ 0 → (s.zone z).monitor = .standby) →
    (∀ z ∈ [r.fromZone, r.toZone], z ≠ 0 → ((s.zone z).attach.filter fun e => decide (e.channel ≠ ch)).length < 48) →
    Takes s 0x04 tag (putAttach r) →
    ∃ zones,
      exec (.attachMeter tag (putAttach r)) s =
        .next ({ s.popIntake with
          zones := zones
          meters := Table.insert s.meters ch
            { m with
              fromZone := r.fromZone
              toZone := r.toZone
              fromCover := if r.fromZone = 0 then none else some Cover.empty
              toCover := if r.toZone = 0 then none else some Cover.empty } }.replied 0x04 tag .ok []) ∧
      ∀ z, z ≠ 0 → ∃ l, Table.read Zone.reset zones z = { s.zone z with attach := l } ∧
        l.Pairwise (fun a b => a.channel < b.channel) ∧
        ∀ e, e ∈ l ↔ (e ∈ (s.zone z).attach ∧ e.channel ≠ ch) ∨ (z = r.fromZone ∧ e = ⟨ch, .fromSide⟩) ∨
          (z = r.toZone ∧ e = ⟨ch, .toSide⟩)

/-- R11: a REMOVE_METER that passes its checks discards the record, takes its entries from the lists and its serial from the
map, and changes nothing else. -/
def Obligations.RemoveMeterFreesChannel : Prop :=
  ∀ (tag : Byte) (serial ch : Nat) (m : Meter) (s : State), AttachOk s → SerialValid serial →
    s.meterBySerial serial = some (ch, m) →
    (∀ z ∈ [m.fromZone, m.toZone], z ≠ 0 → (s.zone z).monitor = .standby) → Takes s 0x02 tag (putNat 4 serial) →
    ∃ zones,
      exec (.removeMeter tag (putNat 4 serial)) s =
        .next ({ s.popIntake with
          zones := zones
          meters := Table.erase s.meters ch
          serials := Table.erase s.serials serial }.replied 0x02 tag .ok []) ∧
      ∀ z, z ≠ 0 → Table.read Zone.reset zones z =
        { s.zone z with attach := (s.zone z).attach.filter fun e => decide (e.channel ≠ ch) }

/-- R13: a REPLACE_METER that passes the checks of R12 gives the record the new serial and description, the base the message
carries, state LIVE and no last fault, ends every run of the meter, and changes nothing else. -/
def Obligations.ReplaceMeterSetsBase : Prop :=
  ∀ (tag : Byte) (r : ReplaceReq) (ch : Nat) (m : Meter) (s : State), SerialValid r.serial →
    (∀ n ∈ r.newSerial, SerialValid n) → r.spec.Valid → r.time < 2 ^ 32 →
    (r.spec.kind = 0 → r.forward < 10 ^ r.spec.digits) → (r.spec.kind = 1 → r.forward ≤ 65535) →
    (r.spec.flow = 0 → r.reverse = none) → (r.spec.flow = 1 → ∃ v, r.reverse = some v ∧ v < 10 ^ r.spec.digits) →
    (r.spec.kind = 0 → r.sequence = none) → (r.spec.kind = 1 → ∃ q, r.sequence = some q ∧ q ≤ 255) →
    s.meterBySerial r.serial = some (ch, m) → (∀ n ∈ r.newSerial, n ≠ r.serial → s.channelOf n = none) →
    (∀ b ∈ m.base, b.time ≤ r.time) → (∀ c ∈ s.clock, r.time ≤ c + s.settings.skew) →
    Takes s 0x03 tag (putReplace r) →
    exec (.replaceMeter tag (putReplace r)) s =
      .next ({ s.popIntake with
        serials := Table.insert (Table.erase s.serials r.serial) (r.newSerial.getD r.serial) ch
        meters := Table.insert s.meters ch
          { m with
            serial := r.newSerial.getD r.serial
            kind := if r.spec.kind = 0 then .register else .pulse
            flow := if r.spec.flow = 0 then .oneWay else .twoWay
            unit := r.spec.unit
            digits := if r.spec.kind = 0 then some r.spec.digits else none
            qmax := r.spec.qmax
            state := .live
            base := some
              { time := r.time
                forward := if r.spec.kind = 0 then some r.forward else none
                reverse := if r.spec.flow = 0 then none else r.reverse
                sequence := if r.spec.kind = 0 then none else r.sequence }
            lastFault := none
            fromCover := m.fromCover.map fun (c : Cover) => { c with runStart := none }
            toCover := m.toCover.map fun (c : Cover) => { c with runStart := none } } }.replied 0x03 tag .ok [])

/-- R1, R6: channels and serials stay in range, a base is absent exactly while its meter is UNBASED, and the map stays in step
with the records. -/
def Obligations.DirectoryStaysConsistent : Prop :=
  ∀ s t : State, TablesOk s → DirectoryOk s → step s = .next t → DirectoryOk t

/-- R3, R4: the lists, the meters' zones and their cover records stay in step. -/
def Obligations.AttachmentsStayConsistent : Prop :=
  ∀ s t : State, TablesOk s → AttachOk s → step s = .next t → AttachOk t

/-! ### Readings (Chapters 2 and 4) -/

/-- R21 to R26: the reading records that are refused, each with its code and detail, in the order of the checks; none of them
changes any state. -/
def Obligations.ReadingRefusals : Prop :=
  ∀ (tag : Byte) (r : ReadingRecord) (s : State), r.Fits → Takes s 0x10 tag (putRecord r) →
    let answers := fun code (detail : Nat) =>
      exec (.reading tag (putRecord r)) s = .next (s.popIntake.replied 0x10 tag code (putNat 1 detail))
    (s.clock = none → answers .noClock 0) ∧
    (s.clock ≠ none → s.meterBySerial r.serial = none → answers .unknownMeter 0) ∧
    ∀ clock ch m, s.clock = some clock → s.meterBySerial r.serial = some (ch, m) →
      (¬ r.ValueOk m → answers .badField 3) ∧ (r.ValueOk m → ¬ r.ReverseOk m → answers .badField 4) ∧
      (r.ValueOk m → r.ReverseOk m → ¬ r.SequenceOk m → answers .badField 5) ∧
      (r.FieldsOk m → clock + s.settings.skew < r.time → answers .futureTime 0) ∧
      ∀ b, r.FieldsOk m → r.time ≤ clock + s.settings.skew → m.base = some b →
        (r.time < b.time → answers .outOfOrder 0) ∧
        (m.kind = .register → r.time = b.time →
          (some r.forward = b.forward → (m.flow = .twoWay → r.reverse = b.reverse) → answers .duplicate 0) ∧
          (¬ (some r.forward = b.forward ∧ (m.flow = .twoWay → r.reverse = b.reverse)) → answers .conflict 0)) ∧
        (m.kind = .pulse → b.time ≤ r.time →
          (r.time = b.time → r.sequence = b.sequence → answers .duplicate 0) ∧
          (r.time = b.time → r.sequence ≠ b.sequence → answers .conflict 0) ∧
          (r.time ≠ b.time → r.sequence = b.sequence → answers .conflict 0))

/-- R24: a reading that passes the checks for an UNBASED meter (one without a base, R6) becomes its base and makes it LIVE, and
changes nothing else. -/
def Obligations.FirstReadingSetsBase : Prop :=
  ∀ (tag : Byte) (r : ReadingRecord) (clock ch : Nat) (m : Meter) (s : State), r.Fits → s.clock = some clock →
    s.meterBySerial r.serial = some (ch, m) → r.FieldsOk m → r.time ≤ clock + s.settings.skew → m.base = none →
    Takes s 0x10 tag (putRecord r) →
    exec (.reading tag (putRecord r)) s =
      .next ({ s.popIntake with
        meters := Table.insert s.meters ch
          { m with
            base := some
              { time := r.time
                forward := if m.kind = MeterKind.register then some r.forward else none
                reverse := if m.flow = Flow.twoWay then r.reverse else none
                sequence := if m.kind = MeterKind.pulse then r.sequence else none }
            state := .live } }.replied 0x10 tag .ok (putNat 1 0))

/-- R27 to R31: LONG_GAP on the length alone; a PULSE meter's LOST_REPORTS on the sequence; then a stream whose volume exceeds
qmax is OVERRANGE where it is plain and REGRESSION where it wrapped, the forward stream first; the rest are accepted. -/
def Obligations.IntervalClassification : Prop :=
  ∀ (limit : Nat) (m : Meter) (b : Base) (r : ReadingRecord), b.time < r.time →
    let t := r.time - b.time
    let modulus := 10 ^ m.digits.getD 0
    let volume := fun (v₀ v₁ : Nat) => (if v₀ ≤ v₁ then v₁ - v₀ else v₁ + modulus - v₀) * m.unit
    let tooMuch := fun (Δ : Nat) => m.qmax * t * 5 < Δ * 18
    (limit * 900 < t → classify limit m b r = .gap .longGap) ∧
    (t ≤ limit * 900 → m.kind = .pulse → ∀ q p, b.sequence = some q → r.sequence = some p →
      (p ≠ (q + 1) % 256 → classify limit m b r = .gap .lostReports) ∧
      (p = (q + 1) % 256 →
        classify limit m b r =
          if tooMuch (r.forward * m.unit) then .gap .overrange else .accepted (r.forward * m.unit) 0)) ∧
    (t ≤ limit * 900 → m.kind = .register → ∀ v₀, b.forward = some v₀ →
      (tooMuch (volume v₀ r.forward) →
        classify limit m b r = .gap (if v₀ ≤ r.forward then .overrange else .regression)) ∧
      (¬ tooMuch (volume v₀ r.forward) →
        (m.flow = .oneWay → classify limit m b r = .accepted (volume v₀ r.forward) 0) ∧
        (m.flow = .twoWay → ∀ u₀ u₁, b.reverse = some u₀ → r.reverse = some u₁ →
          classify limit m b r =
            if tooMuch (volume u₀ u₁) then .gap (if u₀ ≤ u₁ then .overrange else .regression)
            else .accepted (volume v₀ r.forward) (volume u₀ u₁))))

/-- R33 to R35: a gap moves the base, makes the meter LIVE, sets last_fault, ends its runs, sets the faulted flag of a side
whose open night the gap overlaps, and offers its fault to the capture record; nothing else changes, and the code is GAP. -/
def Obligations.GapReadingMovesBase : Prop :=
  ∀ (tag : Byte) (r : ReadingRecord) (clock ch : Nat) (m : Meter) (b : Base) (fault : MeterFault) (s : State), r.Fits →
    s.clock = some clock → s.meterBySerial r.serial = some (ch, m) → r.FieldsOk m →
    r.time ≤ clock + s.settings.skew → m.base = some b → b.time < r.time → repeatOf m b r = none →
    classify s.settings.gapLimit m b r = .gap fault → Takes s 0x10 tag (putRecord r) →
    let hit := fun z => decide (∃ nt ∈ (s.zone z).night,
      (nt.state = .pending ∨ nt.state = .waiting) ∧ b.time < nt.we ∧ nt.ws < r.time)
    exec (.reading tag (putRecord r)) s =
      .next ({ s.popIntake with
        meters := Table.insert s.meters ch
          { m with
            base := some
              { time := r.time
                forward := if m.kind = MeterKind.register then some r.forward else none
                reverse := if m.flow = Flow.twoWay then r.reverse else none
                sequence := if m.kind = MeterKind.pulse then r.sequence else none }
            state := .live
            lastFault := some (fault, r.time)
            fromCover := m.fromCover.map fun (c : Cover) => { c with runStart := none, faulted := c.faulted || hit m.fromZone }
            toCover := m.toCover.map fun (c : Cover) => { c with runStart := none, faulted := c.faulted || hit m.toZone } }
        capture := match s.capture with
          | none => some ⟨.meterFault fault, some m.serial, none, r.time, false⟩
          | some c => some { c with later := true } }.replied 0x10 tag .gap (putNat 1 fault.code))

/-- R32, R59 to R66, R71: an accepted interval moves the base, extends the run of each side, sets the mask flags of the slots
that lie wholly within the run of an open night, adds each slot's net portion to the to-zone and takes it from the from-zone,
queues a WAITING night that it completes, and draws LATE exactly when a side drops. No other zone or meter changes. -/
def Obligations.AcceptedReadingIsApportioned : Prop :=
  ∀ (tag : Byte) (r : ReadingRecord) (clock ch : Nat) (m : Meter) (b : Base) (fwd rev : Nat) (s : State), r.Fits →
    s.clock = some clock → s.meterBySerial r.serial = some (ch, m) → m.SidesOk → r.FieldsOk m →
    r.time ≤ clock + s.settings.skew → m.base = some b → b.time < r.time → repeatOf m b r = none →
    classify s.settings.gapLimit m b r = .accepted fwd rev → Takes s 0x10 tag (putRecord r) →
    let share := fun (Δ x : Nat) => Δ * (min x r.time - b.time) / (r.time - b.time)
    let net := fun (ws j : Nat) =>
      ((share fwd (ws + 900 * (j + 1)) : Int) - share fwd (ws + 900 * j)) -
        ((share rev (ws + 900 * (j + 1)) : Int) - share rev (ws + 900 * j))
    let drops := fun z => z ≠ 0 ∧
      ((∃ w ∈ (s.zone z).lastClosed, b.time < w.we ∧ w.ws < r.time) ∨
        ∃ nt ∈ (s.zone z).night, (nt.state = .queued ∨ nt.state = .closing) ∧ b.time < nt.we ∧ nt.ws < r.time)
    let start := fun (c : Cover) => c.runStart.getD b.time
    ∃ t, exec (.reading tag (putRecord r)) s = .next t ∧
      (∃ reply, t.link.reply = some reply ∧ reply.body = putNat 1 0 ∧
        (drops m.fromZone ∨ drops m.toZone → reply.code = .late) ∧
        (¬ (drops m.fromZone ∨ drops m.toZone) → reply.code = .ok)) ∧
      { t with link := s.link, zones := s.zones, meters := s.meters, closeQueue := s.closeQueue } = s ∧
      (∃ m', t.meter? ch = some m' ∧
        { m' with fromCover := m.fromCover, toCover := m.toCover } =
          { m with
            base := some
              { time := r.time
                forward := if m.kind = MeterKind.register then some r.forward else none
                reverse := if m.flow = Flow.twoWay then r.reverse else none
                sequence := if m.kind = MeterKind.pulse then r.sequence else none }
            state := .live } ∧
        ∀ side, ∀ c ∈ m.coverOn side, ∃ c' ∈ m'.coverOn side,
          c'.runStart = some (start c) ∧ c'.runEnd = r.time ∧ c'.faulted = c.faulted ∧
          ∀ j, j < 16 → (c'.mask.getLsbD j = true ↔ c.mask.getLsbD j = true ∨
            ∃ nt ∈ (s.zone (m.zoneOn side)).night, (nt.state = .pending ∨ nt.state = .waiting) ∧ j < nt.length ∧
              start c ≤ nt.ws + 900 * j ∧ nt.ws + 900 * (j + 1) ≤ r.time)) ∧
      (∀ ch', ch' ≠ ch → t.meter? ch' = s.meter? ch') ∧
      (∀ z, z ≠ m.fromZone → z ≠ m.toZone → t.zone z = s.zone z) ∧
      (∀ side, m.zoneOn side ≠ 0 → ∀ nt ∈ (s.zone (m.zoneOn side)).night, (nt.state = .pending ∨ nt.state = .waiting) →
        ∃ nt' ∈ (t.zone (m.zoneOn side)).night,
          nt'.slots = nt.slots.mapIdx (fun j a => if side = .toSide then a + net nt.ws j else a - net nt.ws j) ∧
          nt' = (if nt.state = .waiting ∧ fullyCovered t (m.zoneOn side) = true then
            { nt with slots := nt'.slots, state := .queued, cause := some .complete }
          else { nt with slots := nt'.slots }) ∧
          t.zone (m.zoneOn side) = { s.zone (m.zoneOn side) with night := some nt' }) ∧
      t.closeQueue = s.closeQueue ++ (([min m.fromZone m.toZone, max m.fromZone m.toZone].filter fun z =>
        decide (z ≠ 0 ∧ nightState s z = some .waiting ∧ fullyCovered t z = true)).map QueueEntry.zone) ∧
      ∀ side, (∀ nt ∈ (s.zone (m.zoneOn side)).night, nt.state = .queued ∨ nt.state = .closing) →
        t.zone (m.zoneOn side) = s.zone (m.zoneOn side)

/-- R62: the portions of one stream in the slots of a window sum to the stream's share between the window's bounds, and to all
of it where the window contains the interval; and two windows that share a 900-second span give it the same portion. -/
def Obligations.PortionsLoseNothing : Prop :=
  ∀ (Δ t₀ t₁ ws n : Nat), t₀ < t₁ →
    let share := fun x => Δ * (min x t₁ - t₀) / (t₁ - t₀)
    (((List.range n).map (portion Δ t₀ t₁ ws)).sum : Int) = (share (ws + 900 * n) : Int) - share ws ∧
      (ws ≤ t₀ → t₁ ≤ ws + 900 * n → ((List.range n).map (portion Δ t₀ t₁ ws)).sum = Δ) ∧
      ∀ ws' j j', ws + 900 * j = ws' + 900 * j' → portion Δ t₀ t₁ ws j = portion Δ t₀ t₁ ws' j'

/-- R20: a READING_BATCH answers OK with one entry for each record; a batch of one does what a READING does, and a longer one
does what a READING of its first record, `k` engine events, and a batch of the other records do, but for the link's reply, which
joins their entries. Each engine event is what one of the four engine commands does. A count outside 1 to 16 draws BAD_FIELD.
(The events are an operand of the model's command, log 7; that the reply carries no count of its own is its reading, log 12.) -/
def Obligations.BatchTakesRecordsInOrder : Prop :=
  (∀ (tag : Byte) (rs : List ReadingRecord) (events : List Nat) (s : State), 1 ≤ rs.length → rs.length ≤ 16 →
    (∀ r ∈ rs, r.Fits) → Takes s 0x11 tag (putBatch rs) →
    ∃ t, exec (.readingBatch tag (putBatch rs) events) s = .next t ∧
      ∃ reply, t.link.reply = some reply ∧ reply.code = .ok ∧ reply.body.length = 2 * rs.length) ∧
  (∀ (tag : Byte) (r : ReadingRecord) (events : List Nat) (s t u : State) (p : Reply), r.Fits → Runs s →
    s.link.intake = [] → exec (.reading tag (putRecord r)) s = .next t → t.link.reply = some p →
    exec (.readingBatch tag (putBatch [r]) events) s = .next u →
    { u with link := t.link } = t ∧ u.link = { t.link with reply := u.link.reply } ∧
      ∃ reply, u.link.reply = some reply ∧ reply.body = putNat 1 p.code.code ++ p.body) ∧
  (∀ (tag : Byte) (r : ReadingRecord) (rs : List ReadingRecord) (k : Nat) (ks : List Nat) (s t₁ t₂ t : State) (p₁ p₂ : Reply),
    r.Fits → (∀ r' ∈ rs, r'.Fits) → 1 ≤ rs.length → rs.length ≤ 15 → Runs s → s.link.intake = [] →
    exec (.reading tag (putRecord r)) s = .next t₁ → t₁.link.reply = some p₁ →
    exec (.readingBatch tag (putBatch rs) ks) (engineEvents k t₁) = .next t₂ → t₂.link.reply = some p₂ →
    exec (.readingBatch tag (putBatch (r :: rs)) (k :: ks)) s = .next t →
    { t with link := t₂.link } = t₂ ∧ t.link = { t₂.link with reply := t.link.reply } ∧
      ∃ reply, t.link.reply = some reply ∧ reply.body = putNat 1 p₁.code.code ++ p₁.body ++ p₂.body) ∧
  (∀ s : State, engineEvents 0 s = s ∧ ∀ k, engineEvents (k + 1) s = engineEvents k (engineEvent s)) ∧
  (∀ s : State, Runs s →
    (∃ c ∈ [Instr.closeStart, .testRunStart, .closeCompletion, .testRunCompletion], exec c s = .next (engineEvent s)) ∧
    ∀ c ∈ [Instr.closeStart, .testRunStart, .closeCompletion, .testRunCompletion], ∀ u, exec c s = .next u → u ≠ s →
      u = engineEvent s) ∧
  ∀ (tag : Byte) (n : Nat) (p : List Byte) (events : List Nat) (s : State), n < 256 → (n = 0 ∨ 16 < n) →
    Takes s 0x11 tag (putNat 1 n ++ p) →
    exec (.readingBatch tag (putNat 1 n ++ p) events) s = .next (s.popIntake.replied 0x11 tag .badField (putNat 1 1))

/-! ### Clock, windows and nights (Chapter 3) -/

/-- R39, R49, R50: a CLOCK_MARK earlier than the clock draws CLOCK_BACK and changes nothing; any other sets the clock, takes
every zone's night on through its life, queues what is due in ascending zone number and replies with the clock and the count.
(That the clock in the reply has no presence byte is the model's reading: log 10.) -/
def Obligations.ClockMarkMovesNights : Prop :=
  (∀ (tag : Byte) (time clock : Nat) (s : State), s.clock = some clock → time < clock → clock < 2 ^ 32 →
    Takes s 0x18 tag (putNat 4 time) →
    exec (.clockMark tag (putNat 4 time)) s =
      .next (s.popIntake.replied 0x18 tag .clockBack (putNat 4 clock ++ putNat 1 0))) ∧
  ∀ (tag : Byte) (time : Nat) (s : State), time < 2 ^ 32 → (∀ c ∈ s.clock, c ≤ time) → Takes s 0x18 tag (putNat 4 time) →
    let moved := fun (full : Bool) (nt : Night) =>
      if nt.state = .waiting ∨ (nt.state = .pending ∧ nt.we ≤ time) then
        if full = true ∧ (nt.state = .pending ∨ nt.deadline ≤ time) then
          { nt with state := .queued, cause := some .complete }
        else if nt.deadline ≤ time then { nt with state := .queued, cause := some .deadline }
        else { nt with state := .waiting }
      else nt
    let queues := fun z => decide (∃ nt ∈ (s.zone z).night,
      (nt.state = .pending ∨ nt.state = .waiting) ∧ (moved (fullyCovered s z) nt).state = .queued)
    ∃ t, exec (.clockMark tag (putNat 4 time)) s = .next t ∧
      (∃ reply, t.link.reply = some reply ∧ reply.code = .ok ∧
        reply.body = putNat 4 time ++ putNat 1 (zoneNumbers.countP queues)) ∧
      t.clock = some time ∧ t.closeQueue = s.closeQueue ++ (zoneNumbers.filter queues).map .zone ∧
      (∀ z, ZoneValid z → t.zone z = { s.zone z with night := (s.zone z).night.map (moved (fullyCovered s z)) }) ∧
      (∀ z, ¬ ZoneValid z → t.zone z = s.zone z) ∧
      { t with clock := s.clock, link := s.link, zones := s.zones, meters := s.meters, closeQueue := s.closeQueue,
               freeCount := s.freeCount } = s

/-- R16: a CLOCK_MARK that is taken makes exactly the LIVE meters STALE whose base is older than the stale limit, changes no
other field of any meter, and a METER_STALE for each of them is queued, or the overflow marker is set. -/
def Obligations.ClockMarkMakesMetersStale : Prop :=
  ∀ (tag : Byte) (time : Nat) (s : State), time < 2 ^ 32 → (∀ c ∈ s.clock, c ≤ time) → Takes s 0x18 tag (putNat 4 time) →
    Table.Rising s.meters → DirectoryOk s →
    let lapses := fun (m : Meter) =>
      m.state = .live ∧ ∃ b ∈ m.base, b.time + s.settings.staleLimit * 3600 < time
    ∃ t, exec (.clockMark tag (putNat 4 time)) s = .next t ∧
      (∀ ch m, s.meter? ch = some m → ¬ lapses m → t.meter? ch = some m) ∧
      (∀ ch m, s.meter? ch = some m → lapses m →
        t.meter? ch = some { m with state := .stale } ∧
        (t.link.overflow = true ∨ ∀ b ∈ m.base, .meterStale m.serial ch b.time ∈ t.link.notices)) ∧
      ∀ ch, s.meter? ch = none → t.meter? ch = none

/-- R38: while set, the part clock never decreases; it becomes UNSET only on pin reset or RESTART. R6: while a meter's record
stays, its base stays present and its base time never decreases. -/
def Obligations.ClockAndBaseTimesNeverDecrease : Prop :=
  (∀ (s t : State) (clock : Nat), step s = .next t → s.clock = some clock →
    (∃ c, t.clock = some c ∧ clock ≤ c) ∨
      (t.clock = none ∧ ∃ rest, s.pending = .restartTakesEffect :: rest ∨ ∃ high, s.pending = .resetPinRelease high :: rest)) ∧
  ∀ (s t : State) (ch : Nat) (m m' : Meter), step s = .next t → s.meter? ch = some m → t.meter? ch = some m' →
    ∀ b ∈ m.base, ∃ b' ∈ m'.base, b.time ≤ b'.time

/-- R41, R47: the chosen window starts at the window start slot of a local day, ends after the clock, starts at or after the end
of the last closed window, and no earlier window does all three. -/
def Obligations.ChosenWindowIsEarliest : Prop :=
  ∀ (g : Geometry) (offset : Int) (clock : Nat) (last : Option Window), g.startSlot ≤ 95 →
    let candidate := fun (ws : Nat) => ((ws : Int) + offset) % 86400 = 900 * g.startSlot ∧
      clock < ws + 900 * g.length ∧ ∀ w ∈ last, w.we ≤ ws
    candidate (chooseStart g offset clock last) ∧ ∀ ws, candidate ws → chooseStart g offset clock last ≤ ws

/-- R48, R69, R110, R111, R113: a ZONE_START or ZONE_SURVEY that passes its checks applies the pending copies, sets the monitor
state (and for a start begins the judgement afresh with the seed, keeping the leak held flag), and creates a PENDING night on the
chosen window with the cover records of the zone's sides emptied; no other zone changes. The first failing check of one that is
refused decides: BAD_FIELD, ZONE_ACTIVE, NO_METERS, NO_CLOCK. -/
def Obligations.ZoneStartCreatesNight : Prop :=
  (∀ (tag : Byte) (r : ZoneStartReq) (clock : Nat) (s : State), ZoneValid r.zone → r.mode ≤ 1 →
    (∀ b ∈ r.seed, b ≤ 20000000) → (r.mode = 1 → r.seed.isSome = true) → (s.zone r.zone).monitor = .standby →
    (s.zone r.zone).attach ≠ [] → ListOk (s.zone r.zone).attach → s.clock = some clock →
    Takes s 0x21 tag (putZoneStart r) →
    let zn := s.zone r.zone
    let g := zn.applyStaged.geometry
    let ws := chooseStart g s.settings.offset clock zn.lastClosed
    ∃ t, exec (.zoneStart tag (putZoneStart r)) s = .next t ∧
      (∃ reply, t.link.reply = some reply ∧ reply.code = .ok ∧ reply.body = []) ∧
      t.zone r.zone = { zn.applyStaged with
        monitor := if r.mode = 0 then .learning else .watch
        judge := ⟨r.seed, 0, [], 0, 0, zn.judge.leakHeld, none⟩
        night := some (createdNight g s.settings.offset ws false) } ∧
      (∀ z, z ≠ r.zone → t.zone z = s.zone z) ∧
      (∀ ch, t.meter? ch = (s.meter? ch).map fun m => { m with
        fromCover := if ⟨ch, .fromSide⟩ ∈ zn.attach then m.fromCover.map (fun _ => Cover.empty) else m.fromCover
        toCover := if ⟨ch, .toSide⟩ ∈ zn.attach then m.toCover.map (fun _ => Cover.empty) else m.toCover }) ∧
      { t with link := s.link, zones := s.zones, meters := s.meters, groups := s.groups } = s) ∧
  (∀ (tag : Byte) (z clock : Nat) (s : State), ZoneValid z → (s.zone z).monitor = .standby → (s.zone z).attach ≠ [] →
    ListOk (s.zone z).attach → s.clock = some clock → Takes s 0x23 tag (putNat 1 z) →
    let zn := s.zone z
    let g := zn.applyStaged.geometry
    let ws := chooseStart g s.settings.offset clock zn.lastClosed
    ∃ t, exec (.zoneSurvey tag (putNat 1 z)) s = .next t ∧
      (∃ reply, t.link.reply = some reply ∧ reply.code = .ok ∧ reply.body = []) ∧
      t.zone z = { zn.applyStaged with
        monitor := .survey
        night := some (createdNight g s.settings.offset ws true) } ∧
      (∀ z', z' ≠ z → t.zone z' = s.zone z') ∧
      (∀ ch, t.meter? ch = (s.meter? ch).map fun m => { m with
        fromCover := if ⟨ch, .fromSide⟩ ∈ zn.attach then m.fromCover.map (fun _ => Cover.empty) else m.fromCover
        toCover := if ⟨ch, .toSide⟩ ∈ zn.attach then m.toCover.map (fun _ => Cover.empty) else m.toCover }) ∧
      { t with link := s.link, zones := s.zones, meters := s.meters, groups := s.groups } = s) ∧
  ∀ (tag : Byte) (r : ZoneStartReq) (s : State), r.zone < 256 → r.mode < 256 → (∀ b ∈ r.seed, b < 2 ^ 32) →
    let standby := (s.zone r.zone).monitor = .standby
    let attached := (s.zone r.zone).attach ≠ []
    let refusals := fun (fieldsOk : Prop) (answers : ReplyCode → List Byte → Prop) =>
      (fieldsOk → ¬ standby → answers .zoneActive []) ∧ (fieldsOk → standby → ¬ attached → answers .noMeters []) ∧
        (fieldsOk → standby → attached → s.clock = none → answers .noClock [])
    let seedOk := (∀ b ∈ r.seed, b ≤ 20000000) ∧ (r.mode = 1 → r.seed ≠ none)
    (Takes s 0x21 tag (putZoneStart r) →
      let answers := fun code body => exec (.zoneStart tag (putZoneStart r)) s = .next (s.popIntake.replied 0x21 tag code body)
      (r.zone = 0 → answers .badField (putNat 1 1)) ∧ (ZoneValid r.zone → 1 < r.mode → answers .badField (putNat 1 2)) ∧
        (ZoneValid r.zone → r.mode ≤ 1 → ¬ seedOk → answers .badField (putNat 1 3)) ∧
        refusals (ZoneValid r.zone ∧ r.mode ≤ 1 ∧ seedOk) answers) ∧
    (Takes s 0x23 tag (putNat 1 r.zone) →
      refusals (ZoneValid r.zone) fun code body =>
        exec (.zoneSurvey tag (putNat 1 r.zone)) s = .next (s.popIntake.replied 0x23 tag code body))

/-- R44, R127, R133: an accepted ZONE_SET writes each entry to its setting, but stages a geometry setting of a zone not in
STANDBY; it shortens the hit list where it lowers W, forms the summary where it carries the route mask, and changes nothing
else of the zone, nor any other zone. -/
def Obligations.ZoneSetStagesGeometry : Prop :=
  ∀ (tag : Byte) (z : Nat) (es : List (Nat × Int)) (s : State), ZoneValid z → 1 ≤ es.length → es.length ≤ 20 →
    (es.map (·.1)).Nodup → (∀ e ∈ es, ZoneEntryOk e) → Takes s 0x20 tag (putZoneSet z es) →
    let zn := s.zone z
    let formed := fun id => ((es.lookup id).getD ((zn.pendingCopy id).elim (zn.setting id) Int.ofNat))
    formed 5 ≤ formed 2 - formed 4 → formed 13 ≤ formed 12 →
    (zn.monitor.armed = true → zn.setting 12 ≤ formed 12) →
    ∃ t, exec (.zoneSet tag (putZoneSet z es)) s = .next t ∧
      (∃ reply, t.link.reply = some reply ∧ reply.code = .ok ∧ reply.body = []) ∧
      (∀ id v, (id, v) ∈ es → (5 < id ∨ zn.monitor = .standby) → (t.zone z).setting id = v) ∧
      (∀ id v, (id, v) ∈ es → id ≤ 5 → zn.monitor ≠ .standby → (t.zone z).pendingCopy id = some v.toNat) ∧
      (∀ id, (es.lookup id = none ∨ (id ≤ 5 ∧ zn.monitor ≠ .standby)) → (t.zone z).setting id = zn.setting id) ∧
      (∀ id, (es.lookup id = none ∨ 5 < id ∨ zn.monitor = .standby) → (t.zone z).pendingCopy id = zn.pendingCopy id) ∧
      (t.zone z).judge = { zn.judge with
        hitList :=
          if formed 12 < zn.setting 12 then zn.judge.hitList.drop (zn.judge.hitList.length - (formed 12).toNat)
          else zn.judge.hitList } ∧
      (t.zone z).summary =
        (if es.lookup 15 = none then zn.summary else summaryOf (t.zone z).params.routeMask zn.held) ∧
      { t.zone z with geometry := zn.geometry, params := zn.params, staged := zn.staged, judge := zn.judge,
                      summary := zn.summary } = zn ∧
      (∀ z', z' ≠ z → t.zone z' = s.zone z') ∧
      { t with link := s.link, zones := s.zones, groups := s.groups } = s

/-- R43, R127: the refusals of ZONE_SET, in the order of the checks: the zone, the count, an entry's identifier or value, the
geometry cross-check and C above W, each naming the value field of the first entry that carries one of the settings concerned,
and a lower W in an armed zone. Section 7.2, R52, R142, R159, R160: every other request that carries a zone and nothing else, and
HISTORY_READ, draws BAD_FIELD naming field 1 for zone 0. -/
def Obligations.ZoneSetRefusals : Prop :=
  (∀ (tag : Byte) (n : Nat) (p : List Byte) (s : State), n < 256 → (n = 0 ∨ 20 < n) →
    (∀ z, ZoneValid z → Takes s 0x20 tag (putNat 1 z ++ putNat 1 n ++ p) →
      exec (.zoneSet tag (putNat 1 z ++ putNat 1 n ++ p)) s = .next (s.popIntake.replied 0x20 tag .badField (putNat 1 2))) ∧
    (Takes s 0x20 tag (putNat 1 0 ++ putNat 1 n ++ p) →
      exec (.zoneSet tag (putNat 1 0 ++ putNat 1 n ++ p)) s = .next (s.popIntake.replied 0x20 tag .badField (putNat 1 1)))) ∧
  (∀ (tag : Byte) (z : Nat) (es : List (Nat × Int)) (s : State), z < 256 → 1 ≤ es.length → es.length ≤ 20 →
    (∀ e ∈ es, EntryFits e) → Takes s 0x20 tag (putZoneSet z es) →
    let names := fun field =>
      exec (.zoneSet tag (putZoneSet z es)) s = .next (s.popIntake.replied 0x20 tag .badField (putNat 1 field))
    let zn := s.zone z
    let formed := fun id => ((es.lookup id).getD ((zn.pendingCopy id).elim (zn.setting id) Int.ofNat))
    let firstOf := fun (ids : List Nat) (before : List (Nat × Int)) =>
      (∀ b ∈ before, b.1 ∉ ids) ∧ ∃ e rest, es = before ++ e :: rest ∧ e.1 ∈ ids
    let entriesOk := (es.map (·.1)).Nodup ∧ ∀ e ∈ es, ZoneEntryOk e
    (z = 0 → names 1) ∧
    (ZoneValid z →
      (∀ good e rest, es = good ++ e :: rest → (good.map (·.1)).Nodup → (∀ g ∈ good, ZoneEntryOk g) →
        (e.1 < 1 ∨ 20 < e.1 ∨ e.1 ∈ good.map (·.1) → names (2 * (good.length + 1) + 1)) ∧
        (1 ≤ e.1 → e.1 ≤ 20 → e.1 ∉ good.map (·.1) → ¬ ZoneEntryOk e → names (2 * (good.length + 1) + 2))) ∧
      (entriesOk → formed 2 - formed 4 < formed 5 →
        ∀ before, firstOf [2, 4, 5] before → names (2 * (before.length + 1) + 2)) ∧
      (entriesOk → formed 5 ≤ formed 2 - formed 4 → formed 12 < formed 13 →
        ∀ before, firstOf [12, 13] before → names (2 * (before.length + 1) + 2)) ∧
      (entriesOk → formed 5 ≤ formed 2 - formed 4 → formed 13 ≤ formed 12 → formed 12 < zn.setting 12 →
        zn.monitor.armed = true →
        exec (.zoneSet tag (putZoneSet z es)) s = .next (s.popIntake.replied 0x20 tag .zoneActive [])))) ∧
  (∀ (c : Instr) (f : Frame) (s : State), c.frame? = some f → c.wellFormed = true →
    f.kind.toNat ∈ [0x22, 0x23, 0x24, 0x25, 0x26, 0x27, 0x28, 0x29, 0x2A, 0x39] → f.payload = [0] →
    Takes s f.kind f.tag f.payload → exec c s = .next (s.popIntake.replied f.kind f.tag .badField (putNat 1 1))) ∧
  ∀ (tag : Byte) (r : HistoryReadReq) (s : State), r.zone = 0 → r.first < 256 → r.count < 256 →
    Takes s 0x38 tag (putHistoryRead r) →
    exec (.historyRead tag (putHistoryRead r)) s = .next (s.popIntake.replied 0x38 tag .badField (putNat 1 1))

/-- R52, R114: what FORCE_CLOSE and EXCLUDE_NIGHT do, by the state of the zone's current night. -/
def Obligations.ForceAndExcludeActOnTheNight : Prop :=
  ∀ (tag : Byte) (z : Nat) (s : State), z < 256 →
    (Takes s 0x25 tag (putNat 1 z) →
      exec (.forceClose tag (putNat 1 z)) s = .next
        (if z = 0 then s.popIntake.replied 0x25 tag .badField (putNat 1 1)
         else match (s.zone z).night with
          | none => s.popIntake.replied 0x25 tag .notActive []
          | some nt =>
            match nt.state with
            | .pending => s.popIntake.replied 0x25 tag .notEnded []
            | .waiting =>
              { s.popIntake with
                zones := Table.put Zone.reset s.zones z
                  { s.zone z with night := some { nt with state := .queued, cause := some .forced } }
                closeQueue := s.closeQueue ++ [QueueEntry.zone z] }.replied 0x25 tag .ok []
            | .queued => s.popIntake.replied 0x25 tag .tooLate []
            | .closing => s.popIntake.replied 0x25 tag .tooLate [])) ∧
    (Takes s 0x24 tag (putNat 1 z) →
      exec (.excludeNight tag (putNat 1 z)) s = .next
        (if z = 0 then s.popIntake.replied 0x24 tag .badField (putNat 1 1)
         else match (s.zone z).night with
          | none => s.popIntake.replied 0x24 tag .notActive []
          | some nt =>
            if nt.state = .pending ∨ nt.state = .waiting then
              { s.popIntake with
                zones := Table.put Zone.reset s.zones z
                  { s.zone z with night := some { nt with excluded := true } } }.replied 0x24 tag .ok []
            else s.popIntake.replied 0x24 tag .tooLate []))

/-! ### Zone commands (Chapter 7) -/

/-- R69, R78, R89, R112: ZONE_STOP in STANDBY draws NOT_ACTIVE; while the night is CLOSING it only sets stop pending; otherwise it
discards the night, takes the zone's entry from the close queue and makes the zone STANDBY with its pending copies applied,
keeping its judgement state, causes and history. -/
def Obligations.ZoneStopSettlesZone : Prop :=
  ∀ (tag : Byte) (z : Nat) (s : State), ZoneValid z → Takes s 0x22 tag (putNat 1 z) →
    ((s.zone z).monitor = .standby →
      exec (.zoneStop tag (putNat 1 z)) s = .next (s.popIntake.replied 0x22 tag .notActive [])) ∧
    ((s.zone z).monitor ≠ .standby → nightState s z = some .closing →
      exec (.zoneStop tag (putNat 1 z)) s =
        .next ({ s.popIntake with
          zones := Table.put Zone.reset s.zones z { s.zone z with stopPending := true } }.replied 0x22 tag .ok [])) ∧
    ((s.zone z).monitor ≠ .standby → nightState s z ≠ some .closing → ListOk (s.zone z).attach →
      ∃ t, exec (.zoneStop tag (putNat 1 z)) s = .next t ∧
        (∃ reply, t.link.reply = some reply ∧ reply.code = .ok ∧ reply.body = []) ∧
        t.zone z = { (s.zone z).applyStaged with night := none, monitor := .standby } ∧
        (∀ z', z' ≠ z → t.zone z' = s.zone z') ∧
        t.closeQueue = s.closeQueue.filter (fun e => decide (e ≠ QueueEntry.zone z)) ∧
        (∀ ch, t.meter? ch = (s.meter? ch).map fun m => { m with
          fromCover := if ⟨ch, .fromSide⟩ ∈ (s.zone z).attach then
            m.fromCover.map (fun (c : Cover) => { c with mask := 0, faulted := false }) else m.fromCover
          toCover := if ⟨ch, .toSide⟩ ∈ (s.zone z).attach then
            m.toCover.map (fun (c : Cover) => { c with mask := 0, faulted := false }) else m.toCover }) ∧
        { t with link := s.link, zones := s.zones, meters := s.meters, groups := s.groups,
                 closeQueue := s.closeQueue } = s)

/-- R115: an ACCEPT_LEVEL that passes its checks makes the clamped last valid minimum night flow the baseline, empties the hit
list, clears the non-hit run and enters WATCH; R116, R134: an ACK_ZONE clears the leak held flag outside LEAK and the held value
of each cause whose live value is clear, and forms the summary again: held when a cause that the route mask includes is held
(R133). Nothing else of any zone changes. -/
def Obligations.AcceptAndAcknowledge : Prop :=
  (∀ (tag : Byte) (z : Nat) (f : Int) (s : State), ZoneValid z → (s.zone z).monitor.armed = true →
    (s.zone z).judge.lastMnf = some f → Takes s 0x26 tag (putNat 1 z) →
    let b := (max 0 (min 20000000 f)).toNat
    ∃ t, exec (.acceptLevel tag (putNat 1 z)) s = .next t ∧
      (∃ reply, t.link.reply = some reply ∧ reply.code = .ok ∧ reply.body = putNat 4 b) ∧
      t.zone z = { s.zone z with
        monitor := .watch
        judge := { (s.zone z).judge with baseline := some b, hitList := [], nonHitRun := 0 } } ∧
      (∀ z', z' ≠ z → t.zone z' = s.zone z') ∧
      { t with link := s.link, zones := s.zones, groups := s.groups } = s) ∧
  (∀ (tag : Byte) (z : Nat) (s : State), ZoneValid z → Takes s 0x26 tag (putNat 1 z) →
    ((s.zone z).monitor.armed = false →
      exec (.acceptLevel tag (putNat 1 z)) s = .next (s.popIntake.replied 0x26 tag .notActive [])) ∧
    ((s.zone z).monitor.armed = true → (s.zone z).judge.lastMnf = none →
      exec (.acceptLevel tag (putNat 1 z)) s = .next (s.popIntake.replied 0x26 tag .noNight []))) ∧
  ∀ (tag : Byte) (z : Nat) (s : State), ZoneValid z → Takes s 0x27 tag (putNat 1 z) →
    let zn := s.zone z
    let held : CauseSet := ⟨zn.held.coverage && zn.live.coverage, zn.held.negative && zn.live.negative,
      zn.held.meter && zn.live.meter, zn.held.dark && zn.live.dark, zn.held.saturated && zn.live.saturated⟩
    let leakHeld := zn.judge.leakHeld && decide (zn.monitor = .leak)
    ∃ t, exec (.ackZone tag (putNat 1 z)) s = .next t ∧
      (∃ reply, t.link.reply = some reply ∧ reply.code = .ok ∧ reply.body = putBool leakHeld ++ putNat 1 held.code) ∧
      t.zone z = { zn with
        judge := { zn.judge with leakHeld := leakHeld }
        held := held
        summary := summaryOf zn.params.routeMask held } ∧
      (summaryOf zn.params.routeMask held = true ↔ ∃ c ∈ held.toList, c ∈ zn.params.routeMask.toList) ∧
      (∀ z', z' ≠ z → t.zone z' = s.zone z') ∧
      { t with link := s.link, zones := s.zones, groups := s.groups } = s

/-- R90, R117: RESET_ZONE leaves the zone as a reset leaves it, but for its settings (pending copies applied) and its
attachments; a queued entry leaves the close queue, a close in service is voided, the mask and the faulted flag of every cover
record of the zone's sides are cleared with its night (R69) and nothing else of a meter changes, and no other zone changes. -/
def Obligations.ResetZoneClearsZone : Prop :=
  ∀ (tag : Byte) (z : Nat) (s : State), ZoneValid z → QueueOk s → ListOk (s.zone z).attach → Takes s 0x28 tag (putNat 1 z) →
    ∃ t, exec (.resetZone tag (putNat 1 z)) s = .next t ∧
      (∃ reply, t.link.reply = some reply ∧ reply.code = .ok ∧ reply.body = []) ∧
      t.zone z = { Zone.reset with
        geometry := (s.zone z).applyStaged.geometry
        params := (s.zone z).params
        attach := (s.zone z).attach } ∧
      (∀ z', z' ≠ z → t.zone z' = s.zone z') ∧
      t.closeQueue = s.closeQueue.filter (fun e => decide (e ≠ QueueEntry.zone z)) ∧
      (∀ c, s.engine = some (.close c) → c.zone = z → nightState s z = some .closing →
        t.engine = some (.close { c with void := true })) ∧
      (nightState s z ≠ some .closing → t.engine = s.engine) ∧
      (∀ ch, t.meter? ch = (s.meter? ch).map fun m =>
        let left := fun (side : Side) (cv : Cover) =>
          if (s.zone z).night ≠ none ∧ ⟨ch, side⟩ ∈ (s.zone z).attach then { cv with mask := 0, faulted := false } else cv
        { m with fromCover := m.fromCover.map (left .fromSide), toCover := m.toCover.map (left .toSide) }) ∧
      { t with link := s.link, zones := s.zones, meters := s.meters, groups := s.groups, closeQueue := s.closeQueue,
               engine := s.engine } = s

/-- R109, R150, R178: an accepted zone command raises ZONE_STATE where it changes the monitor state and the zone's settings select
the change, then GROUP_CHANGE for each of the zone's groups of which it changed an enabled signal, in ascending group number;
no other notice. -/
def Obligations.ZoneCommandsRaiseTheirNotices : Prop :=
  ∀ (c : Instr) (f : Frame) (s t : State) (r : Reply), c.frame? = some f → c.wellFormed = true →
    f.kind.toNat ∈ [0x20, 0x21, 0x22, 0x23, 0x26, 0x27, 0x28] → Takes s f.kind f.tag f.payload → exec c s = .next t →
    t.link.reply = some r → r.code = .ok →
    let z := fieldAt f.payload 0 1
    let news :=
      (if picksChange (t.zone z).params (s.zone z).monitor (t.zone z).monitor then
        [Notice.zoneState z (s.zone z).monitor (t.zone z).monitor] else []) ++ groupNews s t z
    t.link.notices = (news.foldl State.raise s).link.notices ∧ t.link.overflow = (news.foldl State.raise s).link.overflow

/-! ### The Close Engine (Chapters 5 to 8 and 10) -/

/-- R79, R80, R164: a start takes the entry at the head of the queue of an IDLE engine: a zone's night becomes CLOSING and its
settings 6 to 20 are captured, or the test becomes RUNNING; nothing else changes. -/
def Obligations.StartsTakeTheHead : Prop :=
  (∀ (z : Nat) (rest : List QueueEntry) (nt : Night) (s : State), Runs s → s.engine = none →
    s.closeQueue = .zone z :: rest → (s.zone z).night = some nt →
    exec .closeStart s = .next { s with
      zones := Table.put Zone.reset s.zones z { s.zone z with night := some { nt with state := .closing } }
      closeQueue := rest
      engine := some (.close
        { zone := z, night := { nt with state := .closing }, void := false, captured := (s.zone z).params }) }) ∧
  (∀ (n : Nat) (rest : List QueueEntry) (s : State), Runs s → s.engine = none → s.closeQueue = .test :: rest →
    s.test.request = .queued n →
    exec .testRunStart s = .next { s with
      closeQueue := rest, engine := some .testRun, test := ⟨.running n, s.test.result⟩ })

/-- R81, R88, R90, R164: a voided completion writes nothing and returns the engine to IDLE; a test run's completion fills the
result record, raises TEST_DONE and returns the engine to IDLE; tests 1 to 4 pass, and a failing AUDIT names the first zone,
ascending, and its first listed meter that is not LIVE (R168). (What JUDGE's cases 2 and 3 compare is deduced: log 18.) -/
def Obligations.CompletionsReturnToIdle : Prop :=
  (∀ (c : CloseItem) (s : State), Runs s → s.engine = some (.close c) → c.void = true →
    exec .closeCompletion s = .next { s with engine := none }) ∧
  (∀ (n : Nat) (s : State), Runs s → s.engine = some .testRun → s.test.request = .running n → 1 ≤ n → n ≤ 4 →
    exec .testRunCompletion s = .next { s.raise (.testDone n .pass) with
      engine := none, test := ⟨.idle, some ⟨n, .pass, none, none, s.clock⟩⟩ }) ∧
  ∀ s : State, Runs s → s.engine = some .testRun → s.test.request = .running 5 →
    ∃ outcome finding, exec .testRunCompletion s = .next { s.raise (.testDone 5 outcome) with
        engine := none, test := ⟨.idle, some ⟨5, outcome, none, finding, s.clock⟩⟩ } ∧
      let passes := fun (l : List Attachment) => ∀ e ∈ l, ∀ m, s.meter? e.channel = some m → m.state = .live
      let examined := fun z => ZoneValid z ∧ (s.zone z).monitor ≠ .standby
      (outcome = .pass ∨ outcome = .fail) ∧ (finding = none ↔ outcome = .pass) ∧
      (outcome = .pass ↔ ∀ z, examined z → passes (s.zone z).attach) ∧
      ∀ a, finding = some a → examined a.zone ∧ (∀ z, z < a.zone → examined z → passes (s.zone z).attach) ∧
        ∃ before e rest m, (s.zone a.zone).attach = before ++ e :: rest ∧ passes before ∧ s.meter? e.channel = some m ∧
          m.state ≠ .live ∧ a.channel = e.channel ∧ a.serial = m.serial

/-- R81 to R87, R119, R131 to R133, R139 to R141, R157, R158: the completion of a zone close sets the causes and the summary,
judges the night, writes the published record (under the publish hold), the profile and the history ring, frees the night, sets
the last closed window, creates the next night where the zone stays monitored, and returns the engine to IDLE; no other zone
changes. (What its figures and its verdict are: MinimumNightFlow and JudgementArithmetic.) -/
def Obligations.CloseCompletionWritesTheNight : Prop :=
  ∀ (c : CloseItem) (s : State), Runs s → s.engine = some (.close c) → c.void = false → CloseOk s →
    let zn := s.zone c.zone
    let f := figuresOf s c.zone c.night c.captured
    let dark := darkAfter zn.monitor c.night.survey c.night.excluded f.run.valid zn.judge.darkCount
    let live : CauseSet := ⟨!f.run.valid, f.negative, f.meter, decide (c.captured.darkLimit ≤ dark), f.run.saturated⟩
    let held := zn.held.union live
    let summary := decide (∃ x ∈ held.toList, x ∈ c.captured.routeMask.toList)
    let v := judgeNight zn.monitor { zn.judge with darkCount := dark } c.night.survey c.night.excluded f.run.valid f.negative
      f.run.mnf c.captured
    let after := if c.night.survey || zn.stopPending then MonitorState.standby else v.monitor
    let hold := c.captured.publishHold && summary
    let record : NightRecord :=
      { label := c.night.label
        ws := c.night.ws
        cause := c.night.cause
        closeTime := s.clock.getD 0
        valid := f.run.valid
        excluded := c.night.excluded
        survey := c.night.survey
        saturated := f.run.saturated
        pubHeld := hold
        mnf := f.run.mnf
        estimate := f.estimate
        baseline := v.judge.baseline
        excess := v.excess
        hit := v.hit
        covered := f.covered
        missing := f.missing
        live := live
        stateAfter := after
        leakEntered := v.leakEntered }
    ∃ t, exec .closeCompletion s = .next t ∧ t.engine = none ∧
      (t.zone c.zone).live = live ∧ (t.zone c.zone).held = held ∧ (t.zone c.zone).summary = summary ∧
      (t.zone c.zone).judge = v.judge ∧ (t.zone c.zone).monitor = after ∧ (t.zone c.zone).stopPending = false ∧
      (t.zone c.zone).lastClosed = some ⟨c.night.ws, c.night.we⟩ ∧ (t.zone c.zone).profile = some f.profile ∧
      (t.zone c.zone).geometry = zn.applyStaged.geometry ∧ (t.zone c.zone).staged = Staged.none ∧
      (t.zone c.zone).params = zn.params ∧ (t.zone c.zone).attach = zn.attach ∧
      (t.zone c.zone).published = some
        { label := c.night.label
          cause := c.night.cause
          valid := f.run.valid
          excluded := c.night.excluded
          survey := c.night.survey
          held := hold
          saturated := f.run.saturated
          mnf := if hold then zn.published.bind (·.mnf) else f.run.mnf
          estimate := if hold then zn.published.bind (·.estimate) else f.estimate
          baseline := v.judge.baseline
          excess := v.excess
          hit := v.hit
          covered := f.covered
          missing := f.missing
          live := live
          stateAfter := after } ∧
      (zn.frozen = true → (t.zone c.zone).ring = zn.ring ∧ (t.zone c.zone).frozen = true ∧
        (t.zone c.zone).unwritten = min 65535 (zn.unwritten + 1)) ∧
      (zn.frozen = false → (t.zone c.zone).ring = (record :: zn.ring).take 16 ∧
        (t.zone c.zone).frozen = (v.leakEntered && c.captured.freezeOnLeak) ∧
        (t.zone c.zone).unwritten = if v.leakEntered && c.captured.freezeOnLeak then 0 else zn.unwritten) ∧
      (after = .standby → (t.zone c.zone).night = none) ∧
      (after ≠ .standby → (t.zone c.zone).night = some (createdNight zn.applyStaged.geometry s.settings.offset
        (chooseStart zn.applyStaged.geometry s.settings.offset (s.clock.getD 0) (some ⟨c.night.ws, c.night.we⟩)) false)) ∧
      (∀ z, z ≠ c.zone → t.zone z = s.zone z) ∧
      { t with link := s.link, zones := s.zones, meters := s.meters, groups := s.groups, capture := s.capture,
               engine := s.engine } = s

/-- R69, R86, R132, R135, R136, R150, R178: the rest of that completion: the notices it raises, in their order; the newly held
causes offered to the capture record; and the cover records of the zone's sides, cleared with the night and emptied where the
next is created. -/
def Obligations.CloseCompletionRaisesNotices : Prop :=
  ∀ (c : CloseItem) (s : State), Runs s → s.engine = some (.close c) → c.void = false → CloseOk s →
    ListOk (s.zone c.zone).attach →
    let zn := s.zone c.zone
    let f := figuresOf s c.zone c.night c.captured
    let dark := darkAfter zn.monitor c.night.survey c.night.excluded f.run.valid zn.judge.darkCount
    let v := judgeNight zn.monitor { zn.judge with darkCount := dark } c.night.survey c.night.excluded f.run.valid f.negative
      f.run.mnf c.captured
    ∃ t, exec .closeCompletion s = .next t ∧
      let after := (t.zone c.zone).monitor
      let newly := (t.zone c.zone).held.diff zn.held
      let news :=
        (if c.captured.notifyClosed then [Notice.nightClosed c.zone c.night.label c.night.cause after f.run.valid] else []) ++
        (if picksChange c.captured zn.monitor v.monitor || picksChange c.captured v.monitor after then
          [Notice.zoneState c.zone zn.monitor after] else []) ++
        (if newly = CauseSet.none then [] else [Notice.causeHeld c.zone newly]) ++ groupNews s t c.zone
      t.link = { s.link with
        notices := (news.foldl State.raise s).link.notices, overflow := (news.foldl State.raise s).link.overflow } ∧
      t.capture =
        (match newly.toList, s.capture with
          | [], cap => cap
          | _ :: _, some cap => some { cap with later := true }
          | first :: rest, none =>
            some ⟨.zoneCause first, none, some c.zone, s.clock.getD 0, decide (rest ≠ [])⟩) ∧
      ∀ ch, t.meter? ch = (s.meter? ch).map fun m =>
        let left := fun (cv : Cover) => if after = .standby then { cv with mask := 0, faulted := false } else Cover.empty
        { m with
          fromCover := if ⟨ch, .fromSide⟩ ∈ zn.attach then m.fromCover.map left else m.fromCover
          toCover := if ⟨ch, .toSide⟩ ∈ zn.attach then m.toCover.map left else m.toCover }

/-- R45, R75, R76, R107: the close queue holds each zone at most once, and a zone exactly when its current night is QUEUED; a
night is CLOSING exactly when an unvoided close of it is in service; a zone has no night exactly in STANDBY. -/
def Obligations.CloseAndQueueStayConsistent : Prop :=
  ∀ s t : State, CloseOk s → step s = .next t → CloseOk t

/-! ### Night-flow arithmetic and judgement (Chapters 6 and 7) -/

/-- R96 to R102: the minimum night flow comes from the least sum of M consecutive covered slots, divided by 25 × M and rounded to
nearest with halves away from zero, then clamped; the night is valid when such a run exists and the missing count is within the
miss limit; the NEGATIVE condition and the leakage estimate follow from it. R70, R72, R95, R104: the row of slots it comes from
holds a slot's accumulator where every entry of the zone's list, one at least, has the slot's mask flag set; the slot profile
holds that row with the cover counts; the METER condition is that some entry's faulted flag is set; and a zone is fully covered
where it has a night and every slot of it is covered so. -/
def Obligations.MinimumNightFlow : Prop :=
  (∀ (row : SlotRow) (span missLimit : Nat), 1 ≤ span → span ≤ row.length →
    let run := fun (i : Nat) (vs : List Int) => i + span ≤ row.length ∧ (row.drop i).take span = vs.map some
    let result := runMin row span missLimit
    ((∀ i vs, ¬ run i vs) → result.mnf = none ∧ result.valid = false ∧ result.saturated = false) ∧
    ((∃ i vs, run i vs) → ∃ i vs, run i vs ∧ (∀ i' vs', run i' vs' → vs.sum ≤ vs'.sum) ∧
      ∃ q : Int,
        let d := (25 * span : Int)
        (2 * |vs.sum - q * d| < d ∨ (2 * |vs.sum - q * d| = d ∧ |vs.sum| < |q * d|)) ∧
        result.mnf = some (max (-20000000) (min 20000000 q)) ∧
        (result.saturated = true ↔ q < -20000000 ∨ 20000000 < q) ∧
        (result.valid = true ↔ row.countP (·.isNone) ≤ missLimit))) ∧
  (∀ (f : Int) (tolerance : Nat), isNegative (some f) tolerance = true ↔ f < -(tolerance : Int)) ∧
  (∀ tolerance : Nat, isNegative none tolerance = false) ∧
  (∀ (f : Int) (allowance : Nat), ∃ e : Nat, estimateOf (some f) allowance = some e ∧ (e : Int) = max 0 (f - allowance)) ∧
  (∀ allowance : Nat, estimateOf none allowance = none) ∧
  (∀ (s : State) (z : Nat), fullyCovered s z = true ↔
    ∃ nt ∈ (s.zone z).night, ∀ j, j < nt.length → SlotCoveredIn s z j) ∧
  ∀ (s : State) (z : Nat) (nt : Night) (p : Params),
    let f := figuresOf s z nt p
    let row := f.profile.slots.map (·.volume)
    f.run = runMin row nt.span nt.missLimit ∧ f.negative = isNegative f.run.mnf p.negTolerance ∧
      f.estimate = estimateOf f.run.mnf p.allowance ∧ f.covered = row.countP (·.isSome) ∧ f.covered + f.missing = nt.length ∧
      (f.meter = true ↔ ∃ e ∈ (s.zone z).attach, coverMeets s e (·.faulted) = true) ∧
      f.profile.label = nt.label ∧ f.profile.attachCount = (s.zone z).attach.length ∧ f.profile.slots.length = nt.length ∧
      ∀ (j : Nat) (slot : ProfileSlot), f.profile.slots[j]? = some slot →
        slot.volume = (if SlotCoveredIn s z j then some (nt.slots.getD j 0) else none) ∧
        slot.count = (s.zone z).attach.countP fun e => coverMeets s e (·.mask.getLsbD j)

/-- R121, R122, R123, R124: the baseline update, the threshold and the hit test; and where a judged night's flag takes a zone in
WATCH or SUSPECT, and a zone in LEAK. R119: the dark count. R118, R120, R123, R125: which nights are learned or judged, what
learning and judging make of the judgement state, and what a night that is not judgeable leaves. -/
def Obligations.JudgementArithmetic : Prop :=
  (∀ (b : Nat) (f : Int) (k : Nat), 1 ≤ k →
    ∃ d : Int, d * 2 ^ k ≤ f - b + 2 ^ (k - 1) ∧ f - b + 2 ^ (k - 1) < (d + 1) * 2 ^ k ∧
      (updateBaseline b f k : Int) = max 0 (min 20000000 (b + d))) ∧
  (∀ (b : Nat) (f : Int) (r abs : Nat), hitOf b f r abs = .hit ↔ (max abs ((b * r + 4) / 8) : Int) < f - b) ∧
  (∀ (state : MonitorState) (hits : List HitFlag) (run w c : Nat) (flag : HitFlag), 3 ≤ w →
    (state = .watch ∧ HitFlag.hit ∉ hits ∨ state = .suspect) → hits.length ≤ w →
    let list := if hits.length = w then hits.drop 1 ++ [flag] else hits ++ [flag]
    let count := list.countP fun x => decide (x = HitFlag.hit)
    trackFlag state hits run flag w c =
      if w < count * 2 then ⟨.leak, list, 0, true⟩
      else if count = 0 then ⟨.watch, list, run, false⟩ else ⟨.suspect, list, run, false⟩) ∧
  (∀ (hits : List HitFlag) (run w c : Nat) (flag : HitFlag), 3 ≤ w → hits.length ≤ w →
    let list := if hits.length = w then hits.drop 1 ++ [flag] else hits ++ [flag]
    trackFlag .leak hits run flag w c =
      if flag = .hit then ⟨.leak, list, 0, false⟩
      else if c ≤ run + 1 then ⟨.watch, [], 0, false⟩ else ⟨.leak, list, run + 1, false⟩) ∧
  (∀ (state : MonitorState) (survey excluded valid : Bool) (count : Nat),
    let counts := state ≠ .standby ∧ state ≠ .survey ∧ survey = false
    (counts → valid = false → excluded = false → darkAfter state survey excluded valid count = min 15 (count + 1)) ∧
    (counts → valid = true → darkAfter state survey excluded valid count = 0) ∧
    (¬ counts ∨ valid = false ∧ excluded = true → darkAfter state survey excluded valid count = count)) ∧
  ∀ (state : MonitorState) (j : Judgement) (survey excluded valid negative : Bool) (p : Params),
    (∀ mnf, state = .standby ∨ state = .survey ∨ survey = true ∨ excluded = true ∨ valid = false ∨ negative = true →
      judgeNight state j survey excluded valid negative mnf p = ⟨j, state, none, .notJudged, false⟩) ∧
    (∀ f : Int, survey = false → excluded = false → valid = true → negative = false →
      let verdict := judgeNight state j survey excluded valid negative (some f) p
      (state = .learning →
        let count := min 30 (j.learningCount + 1)
        let learned := { j with
          baseline := some (j.baseline.elim (max 0 (min 20000000 f)).toNat fun b => updateBaseline b f p.weightShift)
          learningCount := count
          lastMnf := some f }
        verdict = if p.learnNights ≤ count then ⟨{ learned with hitList := [], nonHitRun := 0 }, .watch, none, .notJudged, false⟩
          else ⟨learned, .learning, none, .notJudged, false⟩) ∧
      ∀ b, j.baseline = some b → state = .watch ∨ state = .suspect ∨ state = .leak →
        let flag := hitOf b f p.relEighths p.absThreshold
        let track := trackFlag state j.hitList j.nonHitRun flag p.confirmWindow p.clearRun
        verdict =
          ⟨{ j with
              baseline := some (if state = .watch ∧ flag = .nonHit then updateBaseline b f p.weightShift else b)
              hitList := track.hits
              nonHitRun := track.nonHitRun
              leakHeld := j.leakHeld || track.leakEntered
              lastMnf := some f },
            track.state, some (f - b), .judged flag, track.leakEntered⟩)

/-- R108, R122, R156: baselines, counts and rings stay within their bounds; a zone in WATCH holds no hit, a zone in LEAK has its
leak held flag set, an armed zone has a baseline (R108, R122, R156); and for every cause of every zone, a set live value implies
a set held value (R130). -/
def Obligations.JudgementAndCausesStayWithinBounds : Prop :=
  (∀ s t : State, JudgeOk s → step s = .next t → JudgeOk t) ∧
    ∀ s t : State, CausesOk s → step s = .next t → CausesOk t

/-- R108, R127: a zone's hit list never holds more than W flags, W being the confirm window setting. -/
def Obligations.HitListNeverExceedsW : Prop :=
  ∀ s t : State, CloseOk s → HitsOk s → step s = .next t → HitsOk t

/-- R42, R43, R48, R181: every setting, every pending copy, every night's geometry and every captured setting stays in its range,
and no miss limit exceeds n − M. -/
def Obligations.SettingsStayInRange : Prop :=
  ∀ s t : State, TablesOk s → SettingsOk s → step s = .next t → SettingsOk t

/-! ### Groups (Chapter 9) -/

/-- R147, R149: each group's values equal the combination of its counted members' current values, at every moment, and no zone
belongs to more than 4 groups. -/
def Obligations.GroupsFollowTheirMembers : Prop :=
  (∀ s t : State, GroupsOk s → step s = .next t → GroupsOk t) ∧
    ∀ s t : State, TablesOk s → MembersOk s → step s = .next t → MembersOk t

/-- R151, R152: a GROUP_SET that passes its checks defines the group, forms its values again and raises GROUP_CHANGE where an
enabled signal changed; the first of fields 1 to 6 out of its range, a zone that is no zone or repeats, and a fifth group are
refused. -/
def Obligations.GroupSetDefinesGroup : Prop :=
  ∀ (tag : Byte) (r : GroupSetReq) (s : State), r.Fits → Takes s 0x30 tag (putGroupSet r) →
    let others := fun z => groupNumbers.countP fun g => decide (g ≠ r.group) && (s.group g).members.contains z
    let fieldsOk := ∀ k, r.FieldInRange k
    (∀ n, 1 ≤ n → n ≤ 6 → (∀ k, k < n → r.FieldInRange k) → ¬ r.FieldInRange n →
      exec (.groupSet tag (putGroupSet r)) s = .next (s.popIntake.replied 0x30 tag .badField (putNat 1 n))) ∧
    (fieldsOk → ∀ good z rest, r.members = good ++ z :: rest → good.Nodup → (∀ y ∈ good, y ≠ 0) →
      (z = 0 ∨ z ∈ good) →
      exec (.groupSet tag (putGroupSet r)) s =
        .next (s.popIntake.replied 0x30 tag .badField (putNat 1 (7 + good.length)))) ∧
    (fieldsOk → r.members.Nodup → (∀ z ∈ r.members, z ≠ 0) → (∃ z ∈ r.members, 4 ≤ others z) →
      exec (.groupSet tag (putGroupSet r)) s = .next (s.popIntake.replied 0x30 tag .groupFull [])) ∧
    (fieldsOk → r.members.Nodup → (∀ z ∈ r.members, z ≠ 0) → (∀ z ∈ r.members, others z < 4) →
      ∃ t, exec (.groupSet tag (putGroupSet r)) s = .next t ∧
        (t.group r.group).members = (List.range' 1 255).filter (fun z => decide (z ∈ r.members)) ∧
        (t.group r.group).leakMode = (if r.leakMode = 0 then .any else .all) ∧
        (t.group r.group).integMode = (if r.integMode = 0 then .any else .all) ∧
        (t.group r.group).leakEnable = decide (r.leakEnable = 1) ∧
        (t.group r.group).integEnable = decide (r.integEnable = 1) ∧ SignalsOk s (t.group r.group) ∧
        (∃ reply, t.link.reply = some reply ∧ reply.code = .ok ∧
          reply.body = putBool (t.group r.group).leakValue ++ putBool (t.group r.group).integValue) ∧
        (∀ g, g ≠ r.group → t.group g = s.group g) ∧ { t with link := s.link, groups := s.groups } = s ∧
        let news :=
          if (r.leakEnable = 1 ∧ (t.group r.group).leakValue ≠ (s.group r.group).leakValue) ∨
              (r.integEnable = 1 ∧ (t.group r.group).integValue ≠ (s.group r.group).integValue) then
            [Notice.groupChange r.group (t.group r.group).leakValue (t.group r.group).integValue
              (decide (r.leakEnable = 1)) (decide (r.integEnable = 1))]
          else []
        t.link.notices = (news.foldl State.raise s).link.notices ∧ t.link.overflow = (news.foldl State.raise s).link.overflow)

/-! ### Publication, capture, history and self-test requests (Chapters 8, 10 and 11) -/

/-- R138, R143, R144, R159: CLEAR_CAPTURE returns the record and empties it; REPORT_HOLD copies every published record and every
group's values; REPORT_RELEASE discards the set; UNFREEZE clears the frozen flag and reports how it stood. -/
def Obligations.CaptureReportAndUnfreeze : Prop :=
  ∀ (tag : Byte) (s : State),
    (Takes s 0x43 tag [] →
      exec (.clearCapture tag []) s = .next ({ s.popIntake with capture := none }.replied 0x43 tag .ok (putCapture s.capture))) ∧
    (Takes s 0x40 tag [] →
      (s.report ≠ none → exec (.reportHold tag []) s = .next (s.popIntake.replied 0x40 tag .alreadyHeld [])) ∧
      (s.report = none → exec (.reportHold tag []) s =
        .next ({ s.popIntake with
          report := some
            { stamp := s.clock
              zones := (List.range' 1 255).map fun z => (s.zone z).published
              groups := (List.range' 1 32).map fun g => ((s.group g).leakValue, (s.group g).integValue) } }.replied 0x40 tag .ok
          (putOptNat 4 s.clock)))) ∧
    (Takes s 0x41 tag [] →
      (s.report = none → exec (.reportRelease tag []) s = .next (s.popIntake.replied 0x41 tag .notHeld [])) ∧
      (s.report ≠ none → exec (.reportRelease tag []) s =
        .next ({ s.popIntake with report := none }.replied 0x41 tag .ok []))) ∧
    ∀ z, ZoneValid z → Takes s 0x39 tag (putNat 1 z) →
      exec (.unfreeze tag (putNat 1 z)) s =
        .next ({ s.popIntake with
          zones := Table.put Zone.reset s.zones z { s.zone z with frozen := false } }.replied 0x39 tag .ok
            (putBool (s.zone z).frozen ++ putNat 1 (s.zone z).ring.length ++ putNat 2 (s.zone z).unwritten))

/-- R163, R169, R170: TEST_START queues a test, or draws BUSY or BAD_FIELD; TEST_CANCEL removes a queued one and records ABORTED;
TEST_CLEAR empties the result record only. -/
def Obligations.TestRequestsMoveTheRequest : Prop :=
  ∀ (tag : Byte) (s : State),
    (∀ n, n < 256 → Takes s 0x48 tag (putNat 1 n) →
      (s.test.request ≠ .idle → exec (.testStart tag (putNat 1 n)) s = .next (s.popIntake.replied 0x48 tag .busy [])) ∧
      (s.test.request = .idle → (n = 0 ∨ 5 < n) →
        exec (.testStart tag (putNat 1 n)) s = .next (s.popIntake.replied 0x48 tag .badField (putNat 1 1))) ∧
      (s.test.request = .idle → 1 ≤ n → n ≤ 5 →
        exec (.testStart tag (putNat 1 n)) s =
          .next ({ s.popIntake with
            test := ⟨.queued n, s.test.result⟩, closeQueue := s.closeQueue ++ [QueueEntry.test] }.replied 0x48 tag .ok []))) ∧
    (Takes s 0x49 tag [] →
      (s.test.request = .idle → exec (.testCancel tag []) s = .next (s.popIntake.replied 0x49 tag .notActive [])) ∧
      (∀ n, s.test.request = .running n → exec (.testCancel tag []) s = .next (s.popIntake.replied 0x49 tag .busy [])) ∧
      ∀ n, s.test.request = .queued n → exec (.testCancel tag []) s =
        .next ({ s.popIntake with
          closeQueue := s.closeQueue.filter (fun e => decide (e ≠ QueueEntry.test))
          test := ⟨.idle, some ⟨n, .aborted, none, none, s.clock⟩⟩ }.replied 0x49 tag .ok [])) ∧
    (Takes s 0x4B tag [] →
      exec (.testClear tag []) s =
        .next ({ s.popIntake with test := ⟨s.test.request, none⟩ }.replied 0x4B tag .ok []))
end

