-- ==== Sys2Proof/Laws/State.lean ====
section
/-! SUPPORT. One lemma per field per update of the state, true by `rfl`, so that no later proof unfolds a record update. -/

namespace Sys2Proof.Machine

/-! ### setZone -/

@[simp] theorem State.setZone_pending (s : State) (z : Nat) (v : Zone) : (s.setZone z v).pending = s.pending := rfl
@[simp] theorem State.setZone_link (s : State) (z : Nat) (v : Zone) : (s.setZone z v).link = s.link := rfl
@[simp] theorem State.setZone_clock (s : State) (z : Nat) (v : Zone) : (s.setZone z v).clock = s.clock := rfl
@[simp] theorem State.setZone_settings (s : State) (z : Nat) (v : Zone) : (s.setZone z v).settings = s.settings := rfl
@[simp] theorem State.setZone_meters (s : State) (z : Nat) (v : Zone) : (s.setZone z v).meters = s.meters := rfl
@[simp] theorem State.setZone_serials (s : State) (z : Nat) (v : Zone) : (s.setZone z v).serials = s.serials := rfl
@[simp] theorem State.setZone_closeQueue (s : State) (z : Nat) (v : Zone) : (s.setZone z v).closeQueue = s.closeQueue := rfl
@[simp] theorem State.setZone_engine (s : State) (z : Nat) (v : Zone) : (s.setZone z v).engine = s.engine := rfl
@[simp] theorem State.setZone_capture (s : State) (z : Nat) (v : Zone) : (s.setZone z v).capture = s.capture := rfl
@[simp] theorem State.setZone_report (s : State) (z : Nat) (v : Zone) : (s.setZone z v).report = s.report := rfl
@[simp] theorem State.setZone_groups (s : State) (z : Nat) (v : Zone) : (s.setZone z v).groups = s.groups := rfl
@[simp] theorem State.setZone_test (s : State) (z : Nat) (v : Zone) : (s.setZone z v).test = s.test := rfl
@[simp] theorem State.setZone_freeCount (s : State) (z : Nat) (v : Zone) : (s.setZone z v).freeCount = s.freeCount := rfl
@[simp] theorem State.setZone_meter (s : State) (z : Nat) (v : Zone) (j : Nat) : (s.setZone z v).meter? j = s.meter? j := rfl
@[simp] theorem State.setZone_channelOf (s : State) (z : Nat) (v : Zone) (j : Nat) : (s.setZone z v).channelOf j = s.channelOf j := rfl
@[simp] theorem State.setZone_group (s : State) (z : Nat) (v : Zone) (j : Nat) : (s.setZone z v).group j = s.group j := rfl
@[simp] theorem State.setZone_now (s : State) (z : Nat) (v : Zone) : (s.setZone z v).now = s.now := rfl

/-! ### updZone -/

@[simp] theorem State.updZone_pending (s : State) (z : Nat) (f : Zone → Zone) : (s.updZone z f).pending = s.pending := rfl
@[simp] theorem State.updZone_link (s : State) (z : Nat) (f : Zone → Zone) : (s.updZone z f).link = s.link := rfl
@[simp] theorem State.updZone_clock (s : State) (z : Nat) (f : Zone → Zone) : (s.updZone z f).clock = s.clock := rfl
@[simp] theorem State.updZone_settings (s : State) (z : Nat) (f : Zone → Zone) : (s.updZone z f).settings = s.settings := rfl
@[simp] theorem State.updZone_meters (s : State) (z : Nat) (f : Zone → Zone) : (s.updZone z f).meters = s.meters := rfl
@[simp] theorem State.updZone_serials (s : State) (z : Nat) (f : Zone → Zone) : (s.updZone z f).serials = s.serials := rfl
@[simp] theorem State.updZone_closeQueue (s : State) (z : Nat) (f : Zone → Zone) : (s.updZone z f).closeQueue = s.closeQueue := rfl
@[simp] theorem State.updZone_engine (s : State) (z : Nat) (f : Zone → Zone) : (s.updZone z f).engine = s.engine := rfl
@[simp] theorem State.updZone_capture (s : State) (z : Nat) (f : Zone → Zone) : (s.updZone z f).capture = s.capture := rfl
@[simp] theorem State.updZone_report (s : State) (z : Nat) (f : Zone → Zone) : (s.updZone z f).report = s.report := rfl
@[simp] theorem State.updZone_groups (s : State) (z : Nat) (f : Zone → Zone) : (s.updZone z f).groups = s.groups := rfl
@[simp] theorem State.updZone_test (s : State) (z : Nat) (f : Zone → Zone) : (s.updZone z f).test = s.test := rfl
@[simp] theorem State.updZone_freeCount (s : State) (z : Nat) (f : Zone → Zone) : (s.updZone z f).freeCount = s.freeCount := rfl
@[simp] theorem State.updZone_meter (s : State) (z : Nat) (f : Zone → Zone) (j : Nat) : (s.updZone z f).meter? j = s.meter? j := rfl
@[simp] theorem State.updZone_channelOf (s : State) (z : Nat) (f : Zone → Zone) (j : Nat) : (s.updZone z f).channelOf j = s.channelOf j := rfl
@[simp] theorem State.updZone_group (s : State) (z : Nat) (f : Zone → Zone) (j : Nat) : (s.updZone z f).group j = s.group j := rfl
@[simp] theorem State.updZone_now (s : State) (z : Nat) (f : Zone → Zone) : (s.updZone z f).now = s.now := rfl

/-! ### setMeter -/

@[simp] theorem State.setMeter_pending (s : State) (ch : Nat) (m : Meter) : (s.setMeter ch m).pending = s.pending := rfl
@[simp] theorem State.setMeter_link (s : State) (ch : Nat) (m : Meter) : (s.setMeter ch m).link = s.link := rfl
@[simp] theorem State.setMeter_clock (s : State) (ch : Nat) (m : Meter) : (s.setMeter ch m).clock = s.clock := rfl
@[simp] theorem State.setMeter_settings (s : State) (ch : Nat) (m : Meter) : (s.setMeter ch m).settings = s.settings := rfl
@[simp] theorem State.setMeter_serials (s : State) (ch : Nat) (m : Meter) : (s.setMeter ch m).serials = s.serials := rfl
@[simp] theorem State.setMeter_zones (s : State) (ch : Nat) (m : Meter) : (s.setMeter ch m).zones = s.zones := rfl
@[simp] theorem State.setMeter_closeQueue (s : State) (ch : Nat) (m : Meter) : (s.setMeter ch m).closeQueue = s.closeQueue := rfl
@[simp] theorem State.setMeter_engine (s : State) (ch : Nat) (m : Meter) : (s.setMeter ch m).engine = s.engine := rfl
@[simp] theorem State.setMeter_capture (s : State) (ch : Nat) (m : Meter) : (s.setMeter ch m).capture = s.capture := rfl
@[simp] theorem State.setMeter_report (s : State) (ch : Nat) (m : Meter) : (s.setMeter ch m).report = s.report := rfl
@[simp] theorem State.setMeter_groups (s : State) (ch : Nat) (m : Meter) : (s.setMeter ch m).groups = s.groups := rfl
@[simp] theorem State.setMeter_test (s : State) (ch : Nat) (m : Meter) : (s.setMeter ch m).test = s.test := rfl
@[simp] theorem State.setMeter_freeCount (s : State) (ch : Nat) (m : Meter) : (s.setMeter ch m).freeCount = s.freeCount := rfl
@[simp] theorem State.setMeter_zone (s : State) (ch : Nat) (m : Meter) (j : Nat) : (s.setMeter ch m).zone j = s.zone j := rfl
@[simp] theorem State.setMeter_channelOf (s : State) (ch : Nat) (m : Meter) (j : Nat) : (s.setMeter ch m).channelOf j = s.channelOf j := rfl
@[simp] theorem State.setMeter_group (s : State) (ch : Nat) (m : Meter) (j : Nat) : (s.setMeter ch m).group j = s.group j := rfl
@[simp] theorem State.setMeter_now (s : State) (ch : Nat) (m : Meter) : (s.setMeter ch m).now = s.now := rfl

/-! ### dropMeter -/

@[simp] theorem State.dropMeter_pending (s : State) (ch serial : Nat) : (s.dropMeter ch serial).pending = s.pending := rfl
@[simp] theorem State.dropMeter_link (s : State) (ch serial : Nat) : (s.dropMeter ch serial).link = s.link := rfl
@[simp] theorem State.dropMeter_clock (s : State) (ch serial : Nat) : (s.dropMeter ch serial).clock = s.clock := rfl
@[simp] theorem State.dropMeter_settings (s : State) (ch serial : Nat) : (s.dropMeter ch serial).settings = s.settings := rfl
@[simp] theorem State.dropMeter_zones (s : State) (ch serial : Nat) : (s.dropMeter ch serial).zones = s.zones := rfl
@[simp] theorem State.dropMeter_closeQueue (s : State) (ch serial : Nat) : (s.dropMeter ch serial).closeQueue = s.closeQueue := rfl
@[simp] theorem State.dropMeter_engine (s : State) (ch serial : Nat) : (s.dropMeter ch serial).engine = s.engine := rfl
@[simp] theorem State.dropMeter_capture (s : State) (ch serial : Nat) : (s.dropMeter ch serial).capture = s.capture := rfl
@[simp] theorem State.dropMeter_report (s : State) (ch serial : Nat) : (s.dropMeter ch serial).report = s.report := rfl
@[simp] theorem State.dropMeter_groups (s : State) (ch serial : Nat) : (s.dropMeter ch serial).groups = s.groups := rfl
@[simp] theorem State.dropMeter_test (s : State) (ch serial : Nat) : (s.dropMeter ch serial).test = s.test := rfl
@[simp] theorem State.dropMeter_freeCount (s : State) (ch serial : Nat) : (s.dropMeter ch serial).freeCount = s.freeCount := rfl
@[simp] theorem State.dropMeter_zone (s : State) (ch serial : Nat) (j : Nat) : (s.dropMeter ch serial).zone j = s.zone j := rfl
@[simp] theorem State.dropMeter_group (s : State) (ch serial : Nat) (j : Nat) : (s.dropMeter ch serial).group j = s.group j := rfl
@[simp] theorem State.dropMeter_now (s : State) (ch serial : Nat) : (s.dropMeter ch serial).now = s.now := rfl

/-! ### mapSerial -/

@[simp] theorem State.mapSerial_pending (s : State) (serial ch : Nat) : (s.mapSerial serial ch).pending = s.pending := rfl
@[simp] theorem State.mapSerial_link (s : State) (serial ch : Nat) : (s.mapSerial serial ch).link = s.link := rfl
@[simp] theorem State.mapSerial_clock (s : State) (serial ch : Nat) : (s.mapSerial serial ch).clock = s.clock := rfl
@[simp] theorem State.mapSerial_settings (s : State) (serial ch : Nat) : (s.mapSerial serial ch).settings = s.settings := rfl
@[simp] theorem State.mapSerial_meters (s : State) (serial ch : Nat) : (s.mapSerial serial ch).meters = s.meters := rfl
@[simp] theorem State.mapSerial_zones (s : State) (serial ch : Nat) : (s.mapSerial serial ch).zones = s.zones := rfl
@[simp] theorem State.mapSerial_closeQueue (s : State) (serial ch : Nat) : (s.mapSerial serial ch).closeQueue = s.closeQueue := rfl
@[simp] theorem State.mapSerial_engine (s : State) (serial ch : Nat) : (s.mapSerial serial ch).engine = s.engine := rfl
@[simp] theorem State.mapSerial_capture (s : State) (serial ch : Nat) : (s.mapSerial serial ch).capture = s.capture := rfl
@[simp] theorem State.mapSerial_report (s : State) (serial ch : Nat) : (s.mapSerial serial ch).report = s.report := rfl
@[simp] theorem State.mapSerial_groups (s : State) (serial ch : Nat) : (s.mapSerial serial ch).groups = s.groups := rfl
@[simp] theorem State.mapSerial_test (s : State) (serial ch : Nat) : (s.mapSerial serial ch).test = s.test := rfl
@[simp] theorem State.mapSerial_freeCount (s : State) (serial ch : Nat) : (s.mapSerial serial ch).freeCount = s.freeCount := rfl
@[simp] theorem State.mapSerial_zone (s : State) (serial ch : Nat) (j : Nat) : (s.mapSerial serial ch).zone j = s.zone j := rfl
@[simp] theorem State.mapSerial_meter (s : State) (serial ch : Nat) (j : Nat) : (s.mapSerial serial ch).meter? j = s.meter? j := rfl
@[simp] theorem State.mapSerial_group (s : State) (serial ch : Nat) (j : Nat) : (s.mapSerial serial ch).group j = s.group j := rfl
@[simp] theorem State.mapSerial_now (s : State) (serial ch : Nat) : (s.mapSerial serial ch).now = s.now := rfl

/-! ### unmapSerial -/

@[simp] theorem State.unmapSerial_pending (s : State) (serial : Nat) : (s.unmapSerial serial).pending = s.pending := rfl
@[simp] theorem State.unmapSerial_link (s : State) (serial : Nat) : (s.unmapSerial serial).link = s.link := rfl
@[simp] theorem State.unmapSerial_clock (s : State) (serial : Nat) : (s.unmapSerial serial).clock = s.clock := rfl
@[simp] theorem State.unmapSerial_settings (s : State) (serial : Nat) : (s.unmapSerial serial).settings = s.settings := rfl
@[simp] theorem State.unmapSerial_meters (s : State) (serial : Nat) : (s.unmapSerial serial).meters = s.meters := rfl
@[simp] theorem State.unmapSerial_zones (s : State) (serial : Nat) : (s.unmapSerial serial).zones = s.zones := rfl
@[simp] theorem State.unmapSerial_closeQueue (s : State) (serial : Nat) : (s.unmapSerial serial).closeQueue = s.closeQueue := rfl
@[simp] theorem State.unmapSerial_engine (s : State) (serial : Nat) : (s.unmapSerial serial).engine = s.engine := rfl
@[simp] theorem State.unmapSerial_capture (s : State) (serial : Nat) : (s.unmapSerial serial).capture = s.capture := rfl
@[simp] theorem State.unmapSerial_report (s : State) (serial : Nat) : (s.unmapSerial serial).report = s.report := rfl
@[simp] theorem State.unmapSerial_groups (s : State) (serial : Nat) : (s.unmapSerial serial).groups = s.groups := rfl
@[simp] theorem State.unmapSerial_test (s : State) (serial : Nat) : (s.unmapSerial serial).test = s.test := rfl
@[simp] theorem State.unmapSerial_freeCount (s : State) (serial : Nat) : (s.unmapSerial serial).freeCount = s.freeCount := rfl
@[simp] theorem State.unmapSerial_zone (s : State) (serial : Nat) (j : Nat) : (s.unmapSerial serial).zone j = s.zone j := rfl
@[simp] theorem State.unmapSerial_meter (s : State) (serial : Nat) (j : Nat) : (s.unmapSerial serial).meter? j = s.meter? j := rfl
@[simp] theorem State.unmapSerial_group (s : State) (serial : Nat) (j : Nat) : (s.unmapSerial serial).group j = s.group j := rfl
@[simp] theorem State.unmapSerial_now (s : State) (serial : Nat) : (s.unmapSerial serial).now = s.now := rfl

/-! ### setGroup -/

@[simp] theorem State.setGroup_pending (s : State) (g : Nat) (v : Group) : (s.setGroup g v).pending = s.pending := rfl
@[simp] theorem State.setGroup_link (s : State) (g : Nat) (v : Group) : (s.setGroup g v).link = s.link := rfl
@[simp] theorem State.setGroup_clock (s : State) (g : Nat) (v : Group) : (s.setGroup g v).clock = s.clock := rfl
@[simp] theorem State.setGroup_settings (s : State) (g : Nat) (v : Group) : (s.setGroup g v).settings = s.settings := rfl
@[simp] theorem State.setGroup_meters (s : State) (g : Nat) (v : Group) : (s.setGroup g v).meters = s.meters := rfl
@[simp] theorem State.setGroup_serials (s : State) (g : Nat) (v : Group) : (s.setGroup g v).serials = s.serials := rfl
@[simp] theorem State.setGroup_zones (s : State) (g : Nat) (v : Group) : (s.setGroup g v).zones = s.zones := rfl
@[simp] theorem State.setGroup_closeQueue (s : State) (g : Nat) (v : Group) : (s.setGroup g v).closeQueue = s.closeQueue := rfl
@[simp] theorem State.setGroup_engine (s : State) (g : Nat) (v : Group) : (s.setGroup g v).engine = s.engine := rfl
@[simp] theorem State.setGroup_capture (s : State) (g : Nat) (v : Group) : (s.setGroup g v).capture = s.capture := rfl
@[simp] theorem State.setGroup_report (s : State) (g : Nat) (v : Group) : (s.setGroup g v).report = s.report := rfl
@[simp] theorem State.setGroup_test (s : State) (g : Nat) (v : Group) : (s.setGroup g v).test = s.test := rfl
@[simp] theorem State.setGroup_freeCount (s : State) (g : Nat) (v : Group) : (s.setGroup g v).freeCount = s.freeCount := rfl
@[simp] theorem State.setGroup_zone (s : State) (g : Nat) (v : Group) (j : Nat) : (s.setGroup g v).zone j = s.zone j := rfl
@[simp] theorem State.setGroup_meter (s : State) (g : Nat) (v : Group) (j : Nat) : (s.setGroup g v).meter? j = s.meter? j := rfl
@[simp] theorem State.setGroup_channelOf (s : State) (g : Nat) (v : Group) (j : Nat) : (s.setGroup g v).channelOf j = s.channelOf j := rfl
@[simp] theorem State.setGroup_now (s : State) (g : Nat) (v : Group) : (s.setGroup g v).now = s.now := rfl

/-! ### raise -/

@[simp] theorem State.raise_pending (s : State) (n : Notice) : (s.raise n).pending = s.pending := rfl
@[simp] theorem State.raise_clock (s : State) (n : Notice) : (s.raise n).clock = s.clock := rfl
@[simp] theorem State.raise_settings (s : State) (n : Notice) : (s.raise n).settings = s.settings := rfl
@[simp] theorem State.raise_meters (s : State) (n : Notice) : (s.raise n).meters = s.meters := rfl
@[simp] theorem State.raise_serials (s : State) (n : Notice) : (s.raise n).serials = s.serials := rfl
@[simp] theorem State.raise_zones (s : State) (n : Notice) : (s.raise n).zones = s.zones := rfl
@[simp] theorem State.raise_closeQueue (s : State) (n : Notice) : (s.raise n).closeQueue = s.closeQueue := rfl
@[simp] theorem State.raise_engine (s : State) (n : Notice) : (s.raise n).engine = s.engine := rfl
@[simp] theorem State.raise_capture (s : State) (n : Notice) : (s.raise n).capture = s.capture := rfl
@[simp] theorem State.raise_report (s : State) (n : Notice) : (s.raise n).report = s.report := rfl
@[simp] theorem State.raise_groups (s : State) (n : Notice) : (s.raise n).groups = s.groups := rfl
@[simp] theorem State.raise_test (s : State) (n : Notice) : (s.raise n).test = s.test := rfl
@[simp] theorem State.raise_freeCount (s : State) (n : Notice) : (s.raise n).freeCount = s.freeCount := rfl
@[simp] theorem State.raise_zone (s : State) (n : Notice) (j : Nat) : (s.raise n).zone j = s.zone j := rfl
@[simp] theorem State.raise_meter (s : State) (n : Notice) (j : Nat) : (s.raise n).meter? j = s.meter? j := rfl
@[simp] theorem State.raise_channelOf (s : State) (n : Notice) (j : Nat) : (s.raise n).channelOf j = s.channelOf j := rfl
@[simp] theorem State.raise_group (s : State) (n : Notice) (j : Nat) : (s.raise n).group j = s.group j := rfl
@[simp] theorem State.raise_now (s : State) (n : Notice) : (s.raise n).now = s.now := rfl

/-! ### offerFault -/

@[simp] theorem State.offerFault_pending (s : State) (k : FaultKind) (serial zone : Option Nat) (time : Nat) : (s.offerFault k serial zone time).pending = s.pending := rfl
@[simp] theorem State.offerFault_link (s : State) (k : FaultKind) (serial zone : Option Nat) (time : Nat) : (s.offerFault k serial zone time).link = s.link := rfl
@[simp] theorem State.offerFault_clock (s : State) (k : FaultKind) (serial zone : Option Nat) (time : Nat) : (s.offerFault k serial zone time).clock = s.clock := rfl
@[simp] theorem State.offerFault_settings (s : State) (k : FaultKind) (serial zone : Option Nat) (time : Nat) : (s.offerFault k serial zone time).settings = s.settings := rfl
@[simp] theorem State.offerFault_meters (s : State) (k : FaultKind) (serial zone : Option Nat) (time : Nat) : (s.offerFault k serial zone time).meters = s.meters := rfl
@[simp] theorem State.offerFault_serials (s : State) (k : FaultKind) (serial zone : Option Nat) (time : Nat) : (s.offerFault k serial zone time).serials = s.serials := rfl
@[simp] theorem State.offerFault_zones (s : State) (k : FaultKind) (serial zone : Option Nat) (time : Nat) : (s.offerFault k serial zone time).zones = s.zones := rfl
@[simp] theorem State.offerFault_closeQueue (s : State) (k : FaultKind) (serial zone : Option Nat) (time : Nat) : (s.offerFault k serial zone time).closeQueue = s.closeQueue := rfl
@[simp] theorem State.offerFault_engine (s : State) (k : FaultKind) (serial zone : Option Nat) (time : Nat) : (s.offerFault k serial zone time).engine = s.engine := rfl
@[simp] theorem State.offerFault_report (s : State) (k : FaultKind) (serial zone : Option Nat) (time : Nat) : (s.offerFault k serial zone time).report = s.report := rfl
@[simp] theorem State.offerFault_groups (s : State) (k : FaultKind) (serial zone : Option Nat) (time : Nat) : (s.offerFault k serial zone time).groups = s.groups := rfl
@[simp] theorem State.offerFault_test (s : State) (k : FaultKind) (serial zone : Option Nat) (time : Nat) : (s.offerFault k serial zone time).test = s.test := rfl
@[simp] theorem State.offerFault_freeCount (s : State) (k : FaultKind) (serial zone : Option Nat) (time : Nat) : (s.offerFault k serial zone time).freeCount = s.freeCount := rfl
@[simp] theorem State.offerFault_zone (s : State) (k : FaultKind) (serial zone : Option Nat) (time : Nat) (j : Nat) : (s.offerFault k serial zone time).zone j = s.zone j := rfl
@[simp] theorem State.offerFault_meter (s : State) (k : FaultKind) (serial zone : Option Nat) (time : Nat) (j : Nat) : (s.offerFault k serial zone time).meter? j = s.meter? j := rfl
@[simp] theorem State.offerFault_channelOf (s : State) (k : FaultKind) (serial zone : Option Nat) (time : Nat) (j : Nat) : (s.offerFault k serial zone time).channelOf j = s.channelOf j := rfl
@[simp] theorem State.offerFault_group (s : State) (k : FaultKind) (serial zone : Option Nat) (time : Nat) (j : Nat) : (s.offerFault k serial zone time).group j = s.group j := rfl
@[simp] theorem State.offerFault_now (s : State) (k : FaultKind) (serial zone : Option Nat) (time : Nat) : (s.offerFault k serial zone time).now = s.now := rfl

/-! ### enqueue -/

@[simp] theorem State.enqueue_pending (s : State) (e : QueueEntry) : (s.enqueue e).pending = s.pending := rfl
@[simp] theorem State.enqueue_link (s : State) (e : QueueEntry) : (s.enqueue e).link = s.link := rfl
@[simp] theorem State.enqueue_clock (s : State) (e : QueueEntry) : (s.enqueue e).clock = s.clock := rfl
@[simp] theorem State.enqueue_settings (s : State) (e : QueueEntry) : (s.enqueue e).settings = s.settings := rfl
@[simp] theorem State.enqueue_meters (s : State) (e : QueueEntry) : (s.enqueue e).meters = s.meters := rfl
@[simp] theorem State.enqueue_serials (s : State) (e : QueueEntry) : (s.enqueue e).serials = s.serials := rfl
@[simp] theorem State.enqueue_zones (s : State) (e : QueueEntry) : (s.enqueue e).zones = s.zones := rfl
@[simp] theorem State.enqueue_engine (s : State) (e : QueueEntry) : (s.enqueue e).engine = s.engine := rfl
@[simp] theorem State.enqueue_capture (s : State) (e : QueueEntry) : (s.enqueue e).capture = s.capture := rfl
@[simp] theorem State.enqueue_report (s : State) (e : QueueEntry) : (s.enqueue e).report = s.report := rfl
@[simp] theorem State.enqueue_groups (s : State) (e : QueueEntry) : (s.enqueue e).groups = s.groups := rfl
@[simp] theorem State.enqueue_test (s : State) (e : QueueEntry) : (s.enqueue e).test = s.test := rfl
@[simp] theorem State.enqueue_freeCount (s : State) (e : QueueEntry) : (s.enqueue e).freeCount = s.freeCount := rfl
@[simp] theorem State.enqueue_zone (s : State) (e : QueueEntry) (j : Nat) : (s.enqueue e).zone j = s.zone j := rfl
@[simp] theorem State.enqueue_meter (s : State) (e : QueueEntry) (j : Nat) : (s.enqueue e).meter? j = s.meter? j := rfl
@[simp] theorem State.enqueue_channelOf (s : State) (e : QueueEntry) (j : Nat) : (s.enqueue e).channelOf j = s.channelOf j := rfl
@[simp] theorem State.enqueue_group (s : State) (e : QueueEntry) (j : Nat) : (s.enqueue e).group j = s.group j := rfl
@[simp] theorem State.enqueue_now (s : State) (e : QueueEntry) : (s.enqueue e).now = s.now := rfl

/-! ### dequeue -/

@[simp] theorem State.dequeue_pending (s : State) (e : QueueEntry) : (s.dequeue e).pending = s.pending := rfl
@[simp] theorem State.dequeue_link (s : State) (e : QueueEntry) : (s.dequeue e).link = s.link := rfl
@[simp] theorem State.dequeue_clock (s : State) (e : QueueEntry) : (s.dequeue e).clock = s.clock := rfl
@[simp] theorem State.dequeue_settings (s : State) (e : QueueEntry) : (s.dequeue e).settings = s.settings := rfl
@[simp] theorem State.dequeue_meters (s : State) (e : QueueEntry) : (s.dequeue e).meters = s.meters := rfl
@[simp] theorem State.dequeue_serials (s : State) (e : QueueEntry) : (s.dequeue e).serials = s.serials := rfl
@[simp] theorem State.dequeue_zones (s : State) (e : QueueEntry) : (s.dequeue e).zones = s.zones := rfl
@[simp] theorem State.dequeue_engine (s : State) (e : QueueEntry) : (s.dequeue e).engine = s.engine := rfl
@[simp] theorem State.dequeue_capture (s : State) (e : QueueEntry) : (s.dequeue e).capture = s.capture := rfl
@[simp] theorem State.dequeue_report (s : State) (e : QueueEntry) : (s.dequeue e).report = s.report := rfl
@[simp] theorem State.dequeue_groups (s : State) (e : QueueEntry) : (s.dequeue e).groups = s.groups := rfl
@[simp] theorem State.dequeue_test (s : State) (e : QueueEntry) : (s.dequeue e).test = s.test := rfl
@[simp] theorem State.dequeue_freeCount (s : State) (e : QueueEntry) : (s.dequeue e).freeCount = s.freeCount := rfl
@[simp] theorem State.dequeue_zone (s : State) (e : QueueEntry) (j : Nat) : (s.dequeue e).zone j = s.zone j := rfl
@[simp] theorem State.dequeue_meter (s : State) (e : QueueEntry) (j : Nat) : (s.dequeue e).meter? j = s.meter? j := rfl
@[simp] theorem State.dequeue_channelOf (s : State) (e : QueueEntry) (j : Nat) : (s.dequeue e).channelOf j = s.channelOf j := rfl
@[simp] theorem State.dequeue_group (s : State) (e : QueueEntry) (j : Nat) : (s.dequeue e).group j = s.group j := rfl
@[simp] theorem State.dequeue_now (s : State) (e : QueueEntry) : (s.dequeue e).now = s.now := rfl

/-! ### popIntake -/

@[simp] theorem State.popIntake_pending (s : State) : (s.popIntake).pending = s.pending := rfl
@[simp] theorem State.popIntake_clock (s : State) : (s.popIntake).clock = s.clock := rfl
@[simp] theorem State.popIntake_settings (s : State) : (s.popIntake).settings = s.settings := rfl
@[simp] theorem State.popIntake_meters (s : State) : (s.popIntake).meters = s.meters := rfl
@[simp] theorem State.popIntake_serials (s : State) : (s.popIntake).serials = s.serials := rfl
@[simp] theorem State.popIntake_zones (s : State) : (s.popIntake).zones = s.zones := rfl
@[simp] theorem State.popIntake_closeQueue (s : State) : (s.popIntake).closeQueue = s.closeQueue := rfl
@[simp] theorem State.popIntake_engine (s : State) : (s.popIntake).engine = s.engine := rfl
@[simp] theorem State.popIntake_capture (s : State) : (s.popIntake).capture = s.capture := rfl
@[simp] theorem State.popIntake_report (s : State) : (s.popIntake).report = s.report := rfl
@[simp] theorem State.popIntake_groups (s : State) : (s.popIntake).groups = s.groups := rfl
@[simp] theorem State.popIntake_test (s : State) : (s.popIntake).test = s.test := rfl
@[simp] theorem State.popIntake_freeCount (s : State) : (s.popIntake).freeCount = s.freeCount := rfl
@[simp] theorem State.popIntake_zone (s : State) (j : Nat) : (s.popIntake).zone j = s.zone j := rfl
@[simp] theorem State.popIntake_meter (s : State) (j : Nat) : (s.popIntake).meter? j = s.meter? j := rfl
@[simp] theorem State.popIntake_channelOf (s : State) (j : Nat) : (s.popIntake).channelOf j = s.channelOf j := rfl
@[simp] theorem State.popIntake_group (s : State) (j : Nat) : (s.popIntake).group j = s.group j := rfl
@[simp] theorem State.popIntake_now (s : State) : (s.popIntake).now = s.now := rfl

/-! ### replied -/

@[simp] theorem State.replied_pending (s : State) (kind tag : Byte) (code : ReplyCode) (body : List Byte) : (s.replied kind tag code body).pending = s.pending := rfl
@[simp] theorem State.replied_clock (s : State) (kind tag : Byte) (code : ReplyCode) (body : List Byte) : (s.replied kind tag code body).clock = s.clock := rfl
@[simp] theorem State.replied_settings (s : State) (kind tag : Byte) (code : ReplyCode) (body : List Byte) : (s.replied kind tag code body).settings = s.settings := rfl
@[simp] theorem State.replied_meters (s : State) (kind tag : Byte) (code : ReplyCode) (body : List Byte) : (s.replied kind tag code body).meters = s.meters := rfl
@[simp] theorem State.replied_serials (s : State) (kind tag : Byte) (code : ReplyCode) (body : List Byte) : (s.replied kind tag code body).serials = s.serials := rfl
@[simp] theorem State.replied_zones (s : State) (kind tag : Byte) (code : ReplyCode) (body : List Byte) : (s.replied kind tag code body).zones = s.zones := rfl
@[simp] theorem State.replied_closeQueue (s : State) (kind tag : Byte) (code : ReplyCode) (body : List Byte) : (s.replied kind tag code body).closeQueue = s.closeQueue := rfl
@[simp] theorem State.replied_engine (s : State) (kind tag : Byte) (code : ReplyCode) (body : List Byte) : (s.replied kind tag code body).engine = s.engine := rfl
@[simp] theorem State.replied_capture (s : State) (kind tag : Byte) (code : ReplyCode) (body : List Byte) : (s.replied kind tag code body).capture = s.capture := rfl
@[simp] theorem State.replied_report (s : State) (kind tag : Byte) (code : ReplyCode) (body : List Byte) : (s.replied kind tag code body).report = s.report := rfl
@[simp] theorem State.replied_groups (s : State) (kind tag : Byte) (code : ReplyCode) (body : List Byte) : (s.replied kind tag code body).groups = s.groups := rfl
@[simp] theorem State.replied_test (s : State) (kind tag : Byte) (code : ReplyCode) (body : List Byte) : (s.replied kind tag code body).test = s.test := rfl
@[simp] theorem State.replied_freeCount (s : State) (kind tag : Byte) (code : ReplyCode) (body : List Byte) : (s.replied kind tag code body).freeCount = s.freeCount := rfl
@[simp] theorem State.replied_zone (s : State) (kind tag : Byte) (code : ReplyCode) (body : List Byte) (j : Nat) : (s.replied kind tag code body).zone j = s.zone j := rfl
@[simp] theorem State.replied_meter (s : State) (kind tag : Byte) (code : ReplyCode) (body : List Byte) (j : Nat) : (s.replied kind tag code body).meter? j = s.meter? j := rfl
@[simp] theorem State.replied_channelOf (s : State) (kind tag : Byte) (code : ReplyCode) (body : List Byte) (j : Nat) : (s.replied kind tag code body).channelOf j = s.channelOf j := rfl
@[simp] theorem State.replied_group (s : State) (kind tag : Byte) (code : ReplyCode) (body : List Byte) (j : Nat) : (s.replied kind tag code body).group j = s.group j := rfl
@[simp] theorem State.replied_now (s : State) (kind tag : Byte) (code : ReplyCode) (body : List Byte) : (s.replied kind tag code body).now = s.now := rfl

/-! ### The link of raise, popIntake and replied -/

@[simp] theorem State.raise_link_power (s : State) (n : Notice) : (s.raise n).link.power = s.link.power := rfl
@[simp] theorem State.raise_link_lineRate (s : State) (n : Notice) : (s.raise n).link.lineRate = s.link.lineRate := rfl
@[simp] theorem State.raise_link_receiver (s : State) (n : Notice) : (s.raise n).link.receiver = s.link.receiver := rfl
@[simp] theorem State.raise_link_intake (s : State) (n : Notice) : (s.raise n).link.intake = s.link.intake := rfl
@[simp] theorem State.raise_link_overrun (s : State) (n : Notice) : (s.raise n).link.overrun = s.link.overrun := rfl
@[simp] theorem State.raise_link_reply (s : State) (n : Notice) : (s.raise n).link.reply = s.link.reply := rfl
@[simp] theorem State.raise_link_restart (s : State) (n : Notice) : (s.raise n).link.restart = s.link.restart := rfl

@[simp] theorem State.popIntake_link_power (s : State) : (s.popIntake).link.power = s.link.power := rfl
@[simp] theorem State.popIntake_link_lineRate (s : State) : (s.popIntake).link.lineRate = s.link.lineRate := rfl
@[simp] theorem State.popIntake_link_receiver (s : State) : (s.popIntake).link.receiver = s.link.receiver := rfl
@[simp] theorem State.popIntake_link_overrun (s : State) : (s.popIntake).link.overrun = s.link.overrun := rfl
@[simp] theorem State.popIntake_link_notices (s : State) : (s.popIntake).link.notices = s.link.notices := rfl
@[simp] theorem State.popIntake_link_overflow (s : State) : (s.popIntake).link.overflow = s.link.overflow := rfl
@[simp] theorem State.popIntake_link_reply (s : State) : (s.popIntake).link.reply = s.link.reply := rfl
@[simp] theorem State.popIntake_link_restart (s : State) : (s.popIntake).link.restart = s.link.restart := rfl

@[simp] theorem State.replied_link_power (s : State) (kind tag : Byte) (code : ReplyCode) (body : List Byte) : (s.replied kind tag code body).link.power = s.link.power := rfl
@[simp] theorem State.replied_link_lineRate (s : State) (kind tag : Byte) (code : ReplyCode) (body : List Byte) : (s.replied kind tag code body).link.lineRate = s.link.lineRate := rfl
@[simp] theorem State.replied_link_receiver (s : State) (kind tag : Byte) (code : ReplyCode) (body : List Byte) : (s.replied kind tag code body).link.receiver = s.link.receiver := rfl
@[simp] theorem State.replied_link_intake (s : State) (kind tag : Byte) (code : ReplyCode) (body : List Byte) : (s.replied kind tag code body).link.intake = s.link.intake := rfl
@[simp] theorem State.replied_link_notices (s : State) (kind tag : Byte) (code : ReplyCode) (body : List Byte) : (s.replied kind tag code body).link.notices = s.link.notices := rfl
@[simp] theorem State.replied_link_overflow (s : State) (kind tag : Byte) (code : ReplyCode) (body : List Byte) : (s.replied kind tag code body).link.overflow = s.link.overflow := rfl
@[simp] theorem State.replied_link_restart (s : State) (kind tag : Byte) (code : ReplyCode) (body : List Byte) : (s.replied kind tag code body).link.restart = s.link.restart := rfl

/-! ### What an update writes -/

theorem State.raise_notices (s : State) (n : Notice) :
    (s.raise n).link.notices = (raiseInto s.link.notices s.link.overflow n).1 := rfl

theorem State.raise_overflow (s : State) (n : Notice) :
    (s.raise n).link.overflow = (raiseInto s.link.notices s.link.overflow n).2 := rfl

@[simp] theorem State.enqueue_closeQueue (s : State) (e : QueueEntry) :
    (s.enqueue e).closeQueue = s.closeQueue ++ [e] := rfl

@[simp] theorem State.dequeue_closeQueue (s : State) (e : QueueEntry) :
    (s.dequeue e).closeQueue = s.closeQueue.filter fun x => decide (x ≠ e) := rfl

@[simp] theorem State.offerFault_capture (s : State) (k : FaultKind) (serial zone : Option Nat) (time : Nat) :
    (s.offerFault k serial zone time).capture = some (captureAfter s.capture k serial zone time) := rfl

@[simp] theorem State.popIntake_intake (s : State) : s.popIntake.link.intake = s.link.intake.tail := rfl

@[simp] theorem State.replied_overrun (s : State) (kind tag : Byte) (code : ReplyCode) (body : List Byte) :
    (s.replied kind tag code body).link.overrun = false := rfl

@[simp] theorem State.popIntake_attn (s : State) : s.popIntake.attn = s.attn := rfl

@[simp] theorem State.replied_attn (s : State) (kind tag : Byte) (code : ReplyCode) (body : List Byte) :
    (s.replied kind tag code body).attn = s.attn := rfl

end Sys2Proof.Machine
end

