-- ==== Sys2Proof/Laws/Table.lean ====
section
/-! SUPPORT. The tables: read after write, and the canonical form that every operation keeps (log 16). -/

namespace Sys2Proof.Machine

variable {β : Type}

/-! ### Read after write -/

@[simp] theorem Table.find?_nil (k : Nat) : Table.find? ([] : Table β) k = none := rfl

@[simp] theorem Table.find?_insert_self (t : Table β) (k : Nat) (v : β) : Table.find? (Table.insert t k v) k = some v := by
  induction t with
  | nil => simp [Table.insert, Table.find?]
  | cons e rest ih =>
    obtain ⟨k', v'⟩ := e
    simp only [Table.insert]
    split
    · simp [Table.find?]
    · split
      · simp [Table.find?]
      · next h => simp [Table.find?, Ne.symm h, ih]

theorem Table.find?_insert_ne (t : Table β) {k j : Nat} (v : β) (h : j ≠ k) :
    Table.find? (Table.insert t k v) j = Table.find? t j := by
  induction t with
  | nil => simp [Table.insert, Table.find?, Ne.symm h]
  | cons e rest ih =>
    obtain ⟨k', v'⟩ := e
    simp only [Table.insert]
    split
    · simp [Table.find?, Ne.symm h]
    · split
      · next h' => subst h'; simp [Table.find?, Ne.symm h]
      · simp [Table.find?, ih]

theorem Table.find?_insert (t : Table β) (k j : Nat) (v : β) :
    Table.find? (Table.insert t k v) j = if j = k then some v else Table.find? t j := by
  split
  · next h => subst h; simp
  · next h => exact Table.find?_insert_ne t v h

theorem Table.find?_erase (t : Table β) (k j : Nat) :
    Table.find? (Table.erase t k) j = if j = k then none else Table.find? t j := by
  induction t with
  | nil => simp [Table.erase]
  | cons e rest ih =>
    obtain ⟨k', v'⟩ := e
    simp only [Table.erase] at ih ⊢
    by_cases h : k' = k
    · subst h
      by_cases hj : j = k'
      · subst hj; simpa using ih
      · simp [Table.find?, hj, Ne.symm hj] at ih ⊢; exact ih
    · by_cases hj : k' = j
      · subst hj; simp [Table.find?, h]
      · simp [Table.find?, h, hj]; simpa using ih

@[simp] theorem Table.find?_erase_self (t : Table β) (k : Nat) : Table.find? (Table.erase t k) k = none := by
  simp [Table.find?_erase]

theorem Table.read_put [DecidableEq β] (d : β) (t : Table β) (k j : Nat) (v : β) :
    Table.read d (Table.put d t k v) j = if j = k then v else Table.read d t j := by
  unfold Table.read Table.put
  by_cases hv : v = d
  · simp only [hv, if_true, Table.find?_erase]; split <;> simp
  · simp only [hv, if_false, Table.find?_insert]; split <;> simp

@[simp] theorem Table.read_put_self [DecidableEq β] (d : β) (t : Table β) (k : Nat) (v : β) :
    Table.read d (Table.put d t k v) k = v := by simp [Table.read_put]

theorem Table.read_put_ne [DecidableEq β] (d : β) (t : Table β) {k j : Nat} (v : β) (h : j ≠ k) :
    Table.read d (Table.put d t k v) j = Table.read d t j := by simp [Table.read_put, h]

/-! ### Membership -/

theorem Table.mem_of_find? {t : Table β} {k : Nat} {v : β} (h : Table.find? t k = some v) : (k, v) ∈ t := by
  induction t with
  | nil => simp at h
  | cons e rest ih =>
    obtain ⟨k', v'⟩ := e
    simp only [Table.find?] at h
    split at h
    · next hk => subst hk; simp_all
    · exact List.mem_cons_of_mem _ (ih h)

theorem Table.find?_of_mem {t : Table β} (r : Table.Rising t) {k : Nat} {v : β} (h : (k, v) ∈ t) :
    Table.find? t k = some v := by
  induction t with
  | nil => simp at h
  | cons e rest ih =>
    obtain ⟨k', v'⟩ := e
    rw [Table.Rising, List.pairwise_cons] at r
    rcases List.mem_cons.mp h with h | h
    · cases h; simp [Table.find?]
    · have := r.1 _ h
      simp only [Table.find?]
      rw [if_neg (by simp at this; omega)]
      exact ih r.2 h

theorem Table.find?_none_iff {t : Table β} {k : Nat} : Table.find? t k = none ↔ ∀ e ∈ t, e.1 ≠ k := by
  induction t with
  | nil => simp
  | cons e rest ih =>
    obtain ⟨k', v'⟩ := e
    simp only [Table.find?]
    split
    · next h => simp [h]
    · next h => simp [ih, h]

theorem Table.mem_insert {t : Table β} {k : Nat} {v : β} {e : Nat × β} (h : e ∈ Table.insert t k v) :
    e = (k, v) ∨ e ∈ t := by
  induction t with
  | nil => simpa [Table.insert] using h
  | cons e' rest ih =>
    obtain ⟨k', v'⟩ := e'
    simp only [Table.insert] at h
    split at h
    · simpa using h
    · split at h
      · rcases List.mem_cons.mp h with h | h
        · exact .inl h
        · exact .inr (List.mem_cons_of_mem _ h)
      · rcases List.mem_cons.mp h with h | h
        · exact .inr (by simp [h])
        · exact (ih h).imp id (List.mem_cons_of_mem _)

/-! ### The canonical form -/

theorem Table.insert_rising {t : Table β} (r : Table.Rising t) (k : Nat) (v : β) : Table.Rising (Table.insert t k v) := by
  induction t with
  | nil => simp [Table.insert, Table.Rising]
  | cons e rest ih =>
    obtain ⟨k', v'⟩ := e
    simp only [Table.Rising, List.pairwise_cons] at r ih
    simp only [Table.insert]
    split
    · next h =>
      refine List.pairwise_cons.mpr ⟨?_, List.pairwise_cons.mpr r⟩
      intro e he
      rcases List.mem_cons.mp he with rfl | he
      · exact h
      · exact Nat.lt_trans h (r.1 e he)
    · split
      · next h => subst h; exact List.pairwise_cons.mpr r
      · next h1 h2 =>
        refine List.pairwise_cons.mpr ⟨?_, ih r.2⟩
        intro e he
        rcases Table.mem_insert he with rfl | he
        · simp only; omega
        · exact r.1 e he

theorem Table.erase_rising {t : Table β} (r : Table.Rising t) (k : Nat) : Table.Rising (Table.erase t k) :=
  r.filter _

theorem Table.put_canonical [DecidableEq β] {d : β} {t : Table β} (c : Table.Canonical d t) (k : Nat) (v : β) :
    Table.Canonical d (Table.put d t k v) := by
  unfold Table.put
  split
  · exact ⟨Table.erase_rising c.1 k, fun e he => c.2 e (List.mem_of_mem_filter he)⟩
  · next h =>
    refine ⟨Table.insert_rising c.1 k v, fun e he => ?_⟩
    rcases Table.mem_insert he with rfl | he
    · exact h
    · exact c.2 e he

theorem Table.map_rising {t : Table β} (r : Table.Rising t) (f : β → β) : Table.Rising (t.map fun e => (e.1, f e.2)) :=
  List.pairwise_map.mpr r

theorem Table.mapListed_canonical [DecidableEq β] {d : β} {t : Table β} (r : Table.Rising t) (f : β → β) :
    Table.Canonical d (Table.mapListed d f t) := by
  refine ⟨(Table.map_rising r f).filter _, fun e he => ?_⟩
  have := List.of_mem_filter he
  simpa using this

theorem Table.find?_map (t : Table β) (f : β → β) (k : Nat) :
    Table.find? (t.map fun e => (e.1, f e.2)) k = (Table.find? t k).map f := by
  induction t with
  | nil => rfl
  | cons e rest ih =>
    obtain ⟨k', v'⟩ := e
    simp only [List.map_cons, Table.find?]
    split <;> simp_all

theorem Table.find?_filter_of_rising {t : Table β} (r : Table.Rising t) (p : β → Bool) (k : Nat) :
    Table.find? (t.filter fun e => p e.2) k = (Table.find? t k).filter p := by
  induction t with
  | nil => rfl
  | cons e rest ih =>
    obtain ⟨k', v'⟩ := e
    rw [Table.Rising, List.pairwise_cons] at r
    by_cases hk : k' = k
    · subst hk
      by_cases hp : p v' = true
      · simp [Table.find?, hp, Option.filter]
      · have hn : Table.find? (rest.filter fun e => p e.2) k' = none := by
          rw [Table.find?_none_iff]
          intro e he
          have := r.1 e (List.mem_of_mem_filter he)
          simp at this; omega
        rw [List.filter_cons_of_neg (by simpa using hp), hn]
        simp [Table.find?, Option.filter, hp]
    · by_cases hp : p v' = true <;> simp [Table.find?, hk, hp, ih r.2]

/-- What a table reads after every listed record is changed by `f`. -/
theorem Table.read_mapListed [DecidableEq β] {d : β} {t : Table β} (r : Table.Rising t) (f : β → β) (k : Nat) :
    Table.read d (Table.mapListed d f t) k = ((Table.find? t k).map f).getD d := by
  unfold Table.read Table.mapListed
  have h := Table.find?_filter_of_rising (Table.map_rising r f) (fun v => decide (v ≠ d)) k
  rw [h, Table.find?_map]
  cases Table.find? t k with
  | none => rfl
  | some v =>
    by_cases hv : f v = d
    · simp [Option.filter, hv]
    · simp [Option.filter, hv]

/-- Two canonical tables that read alike are equal lists. -/
theorem Table.rising_ext {t u : Table β} (rt : Table.Rising t) (ru : Table.Rising u)
    (h : ∀ k, Table.find? t k = Table.find? u k) : t = u := by
  have mem : ∀ e, e ∈ t ↔ e ∈ u := fun e =>
    ⟨fun he => Table.mem_of_find? ((h e.1) ▸ Table.find?_of_mem rt he),
     fun he => Table.mem_of_find? ((h e.1).symm ▸ Table.find?_of_mem ru he)⟩
  have nt : t.Nodup := rt.imp fun hab hEq => by rw [hEq] at hab; omega
  have nu : u.Nodup := ru.imp fun hab hEq => by rw [hEq] at hab; omega
  exact List.Perm.eq_of_pairwise (fun a b _ _ h1 h2 => absurd h1 (by omega)) rt ru ((List.perm_ext_iff_of_nodup nt nu).mpr mem)

end Sys2Proof.Machine
end

