-- ==== Sys2Proof/Laws/Ops.lean ====
section
/-! SUPPORT. What the shared operations do, each said once: reading a table after a write, serving a request, raising notices,
changing the covers of a zone's sides, queuing and freeing nights, recomputing groups. -/

namespace Sys2Proof.Machine

/-! ### Reading after a write -/

theorem State.zone_setZone (s : State) (z j : Nat) (v : Zone) :
    (s.setZone z v).zone j = if j = z then v else s.zone j :=
  Table.read_put _ _ _ _ _

@[simp] theorem State.zone_setZone_self (s : State) (z : Nat) (v : Zone) : (s.setZone z v).zone z = v := by
  simp [State.zone_setZone]

theorem State.zone_setZone_ne (s : State) {z j : Nat} (v : Zone) (h : j ≠ z) : (s.setZone z v).zone j = s.zone j := by
  simp [State.zone_setZone, h]

theorem State.zone_updZone (s : State) (z j : Nat) (f : Zone → Zone) :
    (s.updZone z f).zone j = if j = z then f (s.zone z) else s.zone j :=
  State.zone_setZone _ _ _ _

@[simp] theorem State.zone_updZone_self (s : State) (z : Nat) (f : Zone → Zone) : (s.updZone z f).zone z = f (s.zone z) := by
  simp [State.zone_updZone]

theorem State.zone_updZone_ne (s : State) {z j : Nat} (f : Zone → Zone) (h : j ≠ z) :
    (s.updZone z f).zone j = s.zone j := by
  simp [State.zone_updZone, h]

theorem State.group_setGroup (s : State) (g j : Nat) (v : Group) :
    (s.setGroup g v).group j = if j = g then v else s.group j :=
  Table.read_put _ _ _ _ _

@[simp] theorem State.group_setGroup_self (s : State) (g : Nat) (v : Group) : (s.setGroup g v).group g = v := by
  simp [State.group_setGroup]

theorem State.group_setGroup_ne (s : State) {g j : Nat} (v : Group) (h : j ≠ g) :
    (s.setGroup g v).group j = s.group j := by
  simp [State.group_setGroup, h]

theorem State.meter_setMeter (s : State) (ch j : Nat) (m : Meter) :
    (s.setMeter ch m).meter? j = if j = ch then some m else s.meter? j :=
  Table.find?_insert _ _ _ _

@[simp] theorem State.meter_setMeter_self (s : State) (ch : Nat) (m : Meter) : (s.setMeter ch m).meter? ch = some m := by
  simp [State.meter_setMeter]

/-- Everything `updMeter` does to the directory: the record at its channel, where there is one, is changed. -/
theorem State.meter_updMeter (s : State) (ch j : Nat) (f : Meter → Meter) :
    (s.updMeter ch f).meter? j = if j = ch then (s.meter? ch).map f else s.meter? j := by
  unfold State.updMeter
  cases h : s.meter? ch with
  | none => by_cases e : j = ch <;> simp [e, h]
  | some m => simp [State.meter_setMeter]

/-- Everything `updMeter` leaves alone. -/
theorem State.updMeter_frame (s : State) (ch : Nat) (f : Meter → Meter) :
    { s.updMeter ch f with meters := s.meters } = s := by
  unfold State.updMeter
  cases s.meter? ch <;> rfl

@[simp] theorem State.updMeter_zone (s : State) (ch : Nat) (f : Meter → Meter) (z : Nat) :
    (s.updMeter ch f).zone z = s.zone z := by
  unfold State.updMeter
  cases s.meter? ch <;> rfl

@[simp] theorem State.updMeter_group (s : State) (ch : Nat) (f : Meter → Meter) (g : Nat) :
    (s.updMeter ch f).group g = s.group g := by
  unfold State.updMeter
  cases s.meter? ch <;> rfl

@[simp] theorem State.updMeter_channelOf (s : State) (ch : Nat) (f : Meter → Meter) (serial : Nat) :
    (s.updMeter ch f).channelOf serial = s.channelOf serial := by
  unfold State.updMeter
  cases s.meter? ch <;> rfl

theorem State.meter_dropMeter (s : State) (ch serial j : Nat) :
    (s.dropMeter ch serial).meter? j = if j = ch then none else s.meter? j :=
  Table.find?_erase _ _ _

theorem State.channelOf_dropMeter (s : State) (ch serial n : Nat) :
    (s.dropMeter ch serial).channelOf n = if n = serial then none else s.channelOf n :=
  Table.find?_erase _ _ _

theorem State.channelOf_mapSerial (s : State) (serial ch n : Nat) :
    (s.mapSerial serial ch).channelOf n = if n = serial then some ch else s.channelOf n :=
  Table.find?_insert _ _ _ _

theorem State.channelOf_unmapSerial (s : State) (serial n : Nat) :
    (s.unmapSerial serial).channelOf n = if n = serial then none else s.channelOf n :=
  Table.find?_erase _ _ _

/-- A serial that resolves names the record at its channel. -/
theorem State.meterBySerial_some {s : State} {serial ch : Nat} {m : Meter} (h : s.meterBySerial serial = some (ch, m)) :
    s.channelOf serial = some ch ∧ s.meter? ch = some m := by
  unfold State.meterBySerial at h
  cases hc : s.channelOf serial with
  | none => simp [hc] at h
  | some c =>
    simp only [hc, Option.map_eq_some_iff, Prod.mk.injEq] at h
    obtain ⟨m', hm, rfl, rfl⟩ := h
    exact ⟨rfl, hm⟩

/-! ### The tables stay canonical (log 16) -/

theorem TablesOk.setZone {s : State} (h : TablesOk s) (z : Nat) (v : Zone) : TablesOk (s.setZone z v) :=
  ⟨h.1, h.2.1, Table.put_canonical h.2.2.1 z v, h.2.2.2⟩

theorem TablesOk.updZone {s : State} (h : TablesOk s) (z : Nat) (f : Zone → Zone) : TablesOk (s.updZone z f) :=
  h.setZone z _

theorem TablesOk.setGroup {s : State} (h : TablesOk s) (g : Nat) (v : Group) : TablesOk (s.setGroup g v) :=
  ⟨h.1, h.2.1, h.2.2.1, Table.put_canonical h.2.2.2 g v⟩

theorem TablesOk.setMeter {s : State} (h : TablesOk s) (ch : Nat) (m : Meter) : TablesOk (s.setMeter ch m) :=
  ⟨Table.insert_rising h.1 ch m, h.2⟩

theorem TablesOk.updMeter {s : State} (h : TablesOk s) (ch : Nat) (f : Meter → Meter) : TablesOk (s.updMeter ch f) := by
  unfold State.updMeter
  cases s.meter? ch with
  | none => exact h
  | some m => exact h.setMeter ch (f m)

theorem TablesOk.dropMeter {s : State} (h : TablesOk s) (ch serial : Nat) : TablesOk (s.dropMeter ch serial) :=
  ⟨Table.erase_rising h.1 ch, Table.erase_rising h.2.1 serial, h.2.2⟩

theorem TablesOk.mapSerial {s : State} (h : TablesOk s) (serial ch : Nat) : TablesOk (s.mapSerial serial ch) :=
  ⟨h.1, Table.insert_rising h.2.1 serial ch, h.2.2⟩

theorem TablesOk.unmapSerial {s : State} (h : TablesOk s) (serial : Nat) : TablesOk (s.unmapSerial serial) :=
  ⟨h.1, Table.erase_rising h.2.1 serial, h.2.2⟩

/-! ### Serving a request -/

theorem State.canTake_iff (s : State) (f : Frame) : s.canTake f = true ↔ Takes s f.kind f.tag f.payload := by
  simp [State.canTake, State.running, Takes, List.isEmpty_iff, and_assoc]

/-- A reply built from what an owner answers. -/
theorem sendReply_eq (kind tag : Byte) (a : Answer) : sendReply kind tag a = a.state.replied kind tag a.code a.body := by
  simp [sendReply, State.replied, Link.flagsByte, flagBit, State.attn, Nat.mul_comm]

/-- Everything `serve` does, where the request can be taken. -/
theorem serve_taken {kind tag : Byte} {payload : List Byte} (owner : List Byte → State → Answer) {s : State}
    (h : Takes s kind tag payload) :
    serve kind tag payload owner s =
      .next ((owner payload s.popIntake).state.replied kind tag (owner payload s.popIntake).code
        (owner payload s.popIntake).body) := by
  have := (State.canTake_iff s ⟨kind, tag, payload⟩).2 h
  simp [serve, this, sendReply_eq]

/-- Everything `serve` does, where it cannot. -/
theorem serve_held {kind tag : Byte} {payload : List Byte} (owner : List Byte → State → Answer) {s : State}
    (h : ¬ Takes s kind tag payload) : serve kind tag payload owner s = .next s := by
  have : s.canTake ⟨kind, tag, payload⟩ = false := by
    cases e : s.canTake ⟨kind, tag, payload⟩
    · rfl
    · exact absurd ((State.canTake_iff s ⟨kind, tag, payload⟩).1 e) h
  simp [serve, this]

/-- What serving a request answers, in either case. -/
theorem serve_cases {kind tag : Byte} {payload : List Byte} {owner : List Byte → State → Answer} {s t : State}
    (h : serve kind tag payload owner s = .next t) :
    (Takes s kind tag payload ∧ t = (owner payload s.popIntake).state.replied kind tag (owner payload s.popIntake).code
        (owner payload s.popIntake).body) ∨ (¬ Takes s kind tag payload ∧ t = s) := by
  by_cases k : Takes s kind tag payload
  · rw [serve_taken owner k] at h
    injection h with h
    exact Or.inl ⟨k, h.symm⟩
  · rw [serve_held owner k] at h
    injection h with h
    exact Or.inr ⟨k, h.symm⟩

/-! ### Notices (R177) -/

/-- R177: a raised notice keeps the key of the queued notice it falls together with. -/
theorem coalesce_key {old new : Notice} (h : sameKey new old = true) :
    (coalesce old new).code = old.code ∧ (coalesce old new).subject = old.subject := by
  simp only [sameKey, Bool.and_eq_true, decide_eq_true_eq] at h
  cases old <;> cases new <;> simp_all [coalesce, Notice.code, Notice.subject]

/-- Everything a raise does to the queue and the marker. -/
theorem raise_cases (s : State) (n : Notice) :
    ((∃ m ∈ s.link.notices, sameKey n m = true) ∧ (s.raise n).link.overflow = s.link.overflow ∧
      (s.raise n).link.notices = s.link.notices.map fun old => if sameKey n old then coalesce old n else old) ∨
    ((∀ m ∈ s.link.notices, sameKey n m = false) ∧ s.link.notices.length < 96 ∧
      (s.raise n).link.overflow = s.link.overflow ∧ (s.raise n).link.notices = s.link.notices ++ [n]) ∨
    ((∀ m ∈ s.link.notices, sameKey n m = false) ∧ 96 ≤ s.link.notices.length ∧
      (s.raise n).link.overflow = true ∧ (s.raise n).link.notices = s.link.notices) := by
  simp only [State.raise, raiseInto]
  by_cases h : s.link.notices.any (sameKey n) = true
  · left
    simp only [h, if_true, and_self, and_true]
    simpa [List.any_eq_true] using h
  · right
    have h' : ∀ m ∈ s.link.notices, sameKey n m = false := by simpa [List.any_eq_true] using h
    by_cases l : s.link.notices.length < Config.noticeLimit
    · left
      exact ⟨h', l, by simp [h, l], by simp [h, l]⟩
    · right
      exact ⟨h', Nat.le_of_not_lt l, by simp [h, l], by simp [h, l]⟩

/-- Raises read and write the queue and the marker only. -/
theorem raise_frame (s : State) (n : Notice) :
    { s.raise n with link := { (s.raise n).link with notices := s.link.notices, overflow := s.link.overflow } } = s := rfl

/-! ### Fault capture (R136) -/

/-- Everything an offer does. -/
theorem offerFault_eq (s : State) (kind : FaultKind) (serial zone : Option Nat) (time : Nat) :
    s.offerFault kind serial zone time = { s with capture :=
      match s.capture with
      | none => some ⟨kind, serial, zone, time, false⟩
      | some c => some { c with later := true } } := by
  unfold State.offerFault captureAfter
  cases s.capture <;> rfl

/-! ### The covers of a zone's sides -/

theorem updCover_other (m : Meter) (side : Side) (f : Cover → Cover) :
    { m.updCover side f with fromCover := m.fromCover, toCover := m.toCover } = m := by
  cases side <;> rfl

theorem updCover_coverOn (m : Meter) (side side' : Side) (f : Cover → Cover) :
    (m.updCover side f).coverOn side' = if side' = side then (m.coverOn side').map f else m.coverOn side' := by
  cases side <;> cases side' <;> simp [Meter.updCover, Meter.coverOn]

/-- Changing the covers of some entries leaves all but the meters alone. -/
theorem foldCovers_frame (l : List Attachment) (f : Cover → Cover) (s : State) :
    { l.foldl (fun s e => s.updMeter e.channel fun m => m.updCover e.side f) s with meters := s.meters } = s := by
  induction l generalizing s with
  | nil => rfl
  | cons e rest ih =>
    rw [List.foldl_cons]
    have h₁ := ih (s.updMeter e.channel fun m => m.updCover e.side f)
    have h₂ := State.updMeter_frame s e.channel fun m => m.updCover e.side f
    generalize (s.updMeter e.channel fun m => m.updCover e.side f) = u at h₁ h₂
    generalize (List.foldl (fun s e => s.updMeter e.channel fun m => m.updCover e.side f) u rest) = t at h₁ ⊢
    cases t
    cases u
    cases s
    simp_all

/-- The covers at one channel after the change, for entries that name a channel once at most. -/
theorem foldCovers_meter (l : List Attachment) (f : Cover → Cover) (s : State)
    (h : l.Pairwise fun a b => a.channel < b.channel) (ch : Nat) :
    (l.foldl (fun s e => s.updMeter e.channel fun m => m.updCover e.side f) s).meter? ch =
      (s.meter? ch).map fun m => { m with
        fromCover := if (⟨ch, .fromSide⟩ : Attachment) ∈ l then m.fromCover.map f else m.fromCover
        toCover := if (⟨ch, .toSide⟩ : Attachment) ∈ l then m.toCover.map f else m.toCover } := by
  induction l generalizing s with
  | nil => simp
  | cons e rest ih =>
    rw [List.pairwise_cons] at h
    rw [List.foldl_cons, ih _ h.2, State.meter_updMeter]
    by_cases c : ch = e.channel
    · subst c
      have a₁ : (⟨e.channel, .fromSide⟩ : Attachment) ∉ rest := fun k => Nat.lt_irrefl _ (h.1 ⟨e.channel, .fromSide⟩ k)
      have a₂ : (⟨e.channel, .toSide⟩ : Attachment) ∉ rest := fun k => Nat.lt_irrefl _ (h.1 ⟨e.channel, .toSide⟩ k)
      obtain ⟨ch, side⟩ := e
      cases hm : s.meter? ch <;> cases side <;> simp_all [Meter.updCover]
    · obtain ⟨ch', side⟩ := e
      have n₁ : (⟨ch, .fromSide⟩ : Attachment) ≠ ⟨ch', side⟩ := fun k => c (congrArg Attachment.channel k)
      have n₂ : (⟨ch, .toSide⟩ : Attachment) ≠ ⟨ch', side⟩ := fun k => c (congrArg Attachment.channel k)
      simp [c, n₁, n₂, List.mem_cons]

/-- `updAttachedCovers` changes the meters only. -/
theorem updAttachedCovers_frame (s : State) (z : Nat) (f : Cover → Cover) :
    { s.updAttachedCovers z f with meters := s.meters } = s :=
  foldCovers_frame _ f s

/-- Everything `updAttachedCovers` does to the meters. -/
theorem updAttachedCovers_meter (s : State) (z : Nat) (f : Cover → Cover) (h : ListOk (s.zone z).attach) (ch : Nat) :
    (s.updAttachedCovers z f).meter? ch =
      (s.meter? ch).map fun m => { m with
        fromCover := if (⟨ch, .fromSide⟩ : Attachment) ∈ (s.zone z).attach then m.fromCover.map f else m.fromCover
        toCover := if (⟨ch, .toSide⟩ : Attachment) ∈ (s.zone z).attach then m.toCover.map f else m.toCover } :=
  foldCovers_meter _ f s h.1 ch

@[simp] theorem updAttachedCovers_zone (s : State) (z : Nat) (f : Cover → Cover) (j : Nat) :
    (s.updAttachedCovers z f).zone j = s.zone j := by
  have h := congrArg (fun u : State => u.zone j) (updAttachedCovers_frame s z f)
  exact h

@[simp] theorem updAttachedCovers_group (s : State) (z : Nat) (f : Cover → Cover) (g : Nat) :
    (s.updAttachedCovers z f).group g = s.group g := by
  have h := congrArg (fun u : State => u.group g) (updAttachedCovers_frame s z f)
  exact h

/-! ### Nights -/

/-- The zones after a night is created. -/
theorem createNight_zone (z : Nat) (survey : Bool) (s : State) (j : Nat) :
    (createNight z survey s).zone j =
      if j = z then (s.zone z).withNewNight s.settings.offset s.now survey else s.zone j := by
  simp [createNight, State.zone_updZone]

/-- The zones after a night is freed. -/
theorem freeNight_zone (z : Nat) (s : State) (j : Nat) :
    (freeNight z s).zone j = if j = z then { s.zone z with night := none } else s.zone j := by
  simp [freeNight, State.zone_updZone]

/-- The zones after a night is discarded. -/
theorem discardNight_zone (z : Nat) (s : State) (j : Nat) :
    (discardNight z s).zone j = if j = z then { s.zone z with night := none } else s.zone j := by
  rw [← freeNight_zone z s j]
  rfl

/-- R50: the zones after a night is queued. -/
theorem queueNight_zone (z : Nat) (cause : CloseCause) (s : State) (j : Nat) :
    (queueNight z cause s).zone j =
      if j = z then
        { s.zone z with night := (s.zone z).night.map fun nt => { nt with state := .queued, cause := some cause } }
      else s.zone j :=
  State.zone_updZone s z j fun zn =>
    { zn with night := zn.night.map fun nt => { nt with state := .queued, cause := some cause } }

/-- R50: what queuing a night changes beside the zone: its entry joins the close queue at the tail. -/
theorem queueNight_frame (z : Nat) (cause : CloseCause) (s : State) :
    { queueNight z cause s with zones := s.zones } = { s with closeQueue := s.closeQueue ++ [.zone z] } := rfl

/-! ### Groups (R149, R150) -/

/-- Recomputing reads zones and group definitions only, so the order of groups does not matter. -/
theorem recomputed_congr {s t : State} (h : ∀ z, t.zone z = s.zone z) (gr : Group) : gr.recomputed t = gr.recomputed s := by
  have a : counted t = counted s := funext fun z => by simp [counted, h]
  have b : leakMember t = leakMember s := funext fun z => by simp [leakMember, h]
  have c : integMember t = integMember s := funext fun z => by simp [integMember, h]
  simp [Group.recomputed, leakSignal, integSignal, countedMembers, a, b, c]

@[simp] theorem recomputeGroup_zone (s : State) (g z : Nat) : (recomputeGroup s g).zone z = s.zone z := rfl

theorem foldGroups_zone (l : List Nat) (s : State) (z : Nat) : (l.foldl recomputeGroup s).zone z = s.zone z := by
  induction l generalizing s with
  | nil => rfl
  | cons g rest ih => rw [List.foldl_cons, ih, recomputeGroup_zone]

/-- The groups after some of them are recomputed. -/
theorem foldGroups_group (l : List Nat) (s : State) (g : Nat) :
    (l.foldl recomputeGroup s).group g = if g ∈ l then (s.group g).recomputed s else s.group g := by
  induction l generalizing s with
  | nil => simp
  | cons a rest ih =>
    rw [List.foldl_cons, ih, recomputed_congr (recomputeGroup_zone s a)]
    by_cases e : g = a
    · subst e
      have twice : ((s.group g).recomputed s).recomputed s = (s.group g).recomputed s := by
        simp [Group.recomputed, leakSignal, integSignal, countedMembers]
      by_cases k : g ∈ rest <;> simp [k, recomputeGroup, twice]
    · simp [recomputeGroup, State.group_setGroup_ne _ _ e, e]

theorem foldGroups_frame (l : List Nat) (s : State) : { l.foldl recomputeGroup s with groups := s.groups } = s := by
  induction l generalizing s with
  | nil => rfl
  | cons g rest ih =>
    rw [List.foldl_cons]
    exact congrArg (fun u : State => { u with groups := s.groups }) (ih (recomputeGroup s g))

/-- R107: what recomputing every group leaves: zones as they are, each group recomputed, nothing else changed. -/
theorem recomputeAll_cases (s : State) :
    { recomputeAll s with groups := s.groups } = s ∧ (∀ z, (recomputeAll s).zone z = s.zone z) ∧
      ∀ g, (recomputeAll s).group g = if g ∈ groupNumbers then (s.group g).recomputed s else s.group g :=
  ⟨foldGroups_frame _ s, foldGroups_zone _ s, foldGroups_group _ s⟩

/-- Raising notices for groups changes the notice queue and the marker only. -/
theorem raiseGroupChanges_frame (gs : List Nat) (s : State) :
    { raiseGroupChanges gs s with link := s.link } = s := by
  unfold raiseGroupChanges
  induction gs generalizing s with
  | nil => rfl
  | cons g rest ih =>
    rw [List.foldl_cons]
    exact congrArg (fun u : State => { u with link := s.link }) (ih (s.raise (groupNotice s g)))

/-- `refreshGroups` changes the groups, the notice queue and the marker only. -/
theorem refreshGroups_frame (z : Nat) (s : State) :
    { refreshGroups z s with link := s.link, groups := s.groups } = s := by
  have h₁ := congrArg (fun u : State => { u with link := s.link, groups := s.groups })
    (raiseGroupChanges_frame (changedGroups z s) (recomputeGroups z s))
  have h₂ := congrArg (fun u : State => { u with link := s.link }) (foldGroups_frame (groupsOf s z) s)
  exact h₁.trans h₂

@[simp] theorem refreshGroups_zone (z : Nat) (s : State) (j : Nat) : (refreshGroups z s).zone j = s.zone j := by
  have h := congrArg (fun u : State => u.zone j) (refreshGroups_frame z s)
  exact h

@[simp] theorem refreshGroups_meter (z : Nat) (s : State) (ch : Nat) : (refreshGroups z s).meter? ch = s.meter? ch := by
  have h := congrArg (fun u : State => u.meter? ch) (refreshGroups_frame z s)
  exact h

/-- R150: the groups after a zone's groups are recomputed. -/
theorem refreshGroups_group (z : Nat) (s : State) (g : Nat) :
    (refreshGroups z s).group g = if g ∈ groupsOf s z then (s.group g).recomputed s else s.group g := by
  have h₁ := congrArg (fun u : State => u.group g) (raiseGroupChanges_frame (changedGroups z s) (recomputeGroups z s))
  exact h₁.trans (foldGroups_group _ s g)

end Sys2Proof.Machine
end

