-- ==== Sys2Proof/Laws/Total.lean ====
section
/-! SUPPORT. Every command answers a next state: the manual stops the part nowhere. -/

namespace Sys2Proof.Machine

theorem serve_next (kind tag : Byte) (payload : List Byte) (owner : List Byte → State → Answer) (s : State) :
    ∃ t, serve kind tag payload owner s = .next t := by
  unfold serve
  split <;> exact ⟨_, rfl⟩

/-- No command faults or is refused. -/
theorem exec_next (c : Instr) (s : State) : ∃ t, exec c s = .next t := by
  cases c
  case unknownKind kind tag payload =>
    simp only [exec, execUnknownKind]
    split
    · exact ⟨_, rfl⟩
    · exact serve_next _ _ _ _ _
  case restartTakesEffect =>
    simp only [exec, execRestartTakesEffect]
    split <;> exact ⟨_, rfl⟩
  case frameReceived bytes =>
    simp only [exec, execFrameReceived]
    split <;> exact ⟨_, rfl⟩
  case interByteGap => exact ⟨_, rfl⟩
  case resetPinAssert => exact ⟨_, rfl⟩
  case resetPinRelease high =>
    simp only [exec, execResetPinRelease]
    split <;> exact ⟨_, rfl⟩
  case startupReady =>
    simp only [exec, execStartupReady]
    split <;> exact ⟨_, rfl⟩
  case closeStart =>
    simp only [exec, execCloseStart]
    split
    · split <;> exact ⟨_, rfl⟩
    · exact ⟨_, rfl⟩
  case testRunStart =>
    simp only [exec, execTestRunStart]
    split
    · split <;> exact ⟨_, rfl⟩
    · exact ⟨_, rfl⟩
  case closeCompletion =>
    simp only [exec, execCloseCompletion]
    split
    · split <;> exact ⟨_, rfl⟩
    · exact ⟨_, rfl⟩
  case testRunCompletion =>
    simp only [exec, execTestRunCompletion]
    split
    · split <;> exact ⟨_, rfl⟩
    · exact ⟨_, rfl⟩
  all_goals (simp only [exec, execAddMeter, execRemoveMeter, execReplaceMeter, execAttachMeter, execMeterRead, execReading,
    execReadingBatch, execClockMark, execPartSet, execPartStatus, execZoneSet, execForceClose, execZoneStart, execZoneStop,
    execZoneSurvey, execExcludeNight, execAcceptLevel, execAckZone, execResetZone, execZoneRead, execZoneProfile,
    execGroupSet, execGroupRead, execHistoryRead, execUnfreeze, execReportHold, execReportRelease, execCaptureRead,
    execClearCapture, execTestStart, execTestCancel, execTestRead, execTestClear, execNoticeFetch, execRestart]
             exact serve_next _ _ _ _ _)

/-- A step always answers a next state. -/
theorem step_next (s : State) : ∃ t, step s = .next t := by
  unfold step
  split
  · exact ⟨_, rfl⟩
  · exact exec_next _ _

end Sys2Proof.Machine
end

