-- ==== Sys2Proof/Laws/Wire.lean ====
section
/-! SUPPORT. The bytes: what a number's bytes read back as, and reading one field of a row of fields. -/

namespace Sys2Proof.Machine

/-! ### Numbers -/

@[simp] theorem putNat_length (w n : Nat) : (putNat w n).length = w := by
  induction w generalizing n with
  | zero => rfl
  | succ w ih => simp [putNat, ih]

/-- A number in `w` bytes reads back as it was, where it fits. -/
theorem getNat_putNat (w n : Nat) (h : n < 256 ^ w) : getNat (putNat w n) = n := by
  induction w generalizing n with
  | zero => simp at h; simp [putNat, getNat, h]
  | succ w ih =>
    have hq : n / 256 < 256 ^ w := by
      rw [Nat.div_lt_iff_lt_mul (by decide)]
      rwa [Nat.pow_succ] at h
    simp only [putNat, getNat, ih _ hq, BitVec.toNat_ofNat]
    omega

/-- Bytes carry a number below 256 to the power of their count. -/
theorem getNat_lt (bytes : List Byte) : getNat bytes < 256 ^ bytes.length := by
  induction bytes with
  | nil => simp [getNat]
  | cons b rest ih =>
    have hb := b.isLt
    simp only [getNat, List.length_cons, Nat.pow_succ]
    omega

/-- A number's bytes, written back. -/
theorem putNat_getNat (bytes : List Byte) : putNat bytes.length (getNat bytes) = bytes := by
  induction bytes with
  | nil => rfl
  | cons b rest ih =>
    have hb := b.isLt
    have h₁ : (b.toNat + 256 * getNat rest) / 256 = getNat rest := by omega
    have h₂ : BitVec.ofNat 8 (b.toNat + 256 * getNat rest) = b := by
      apply BitVec.eq_of_toNat_eq
      simp only [BitVec.toNat_ofNat]
      omega
    simp [putNat, getNat, h₁, h₂, ih]

@[simp] theorem putInt_length (w : Nat) (i : Int) : (putInt w i).length = w := putNat_length _ _

/-- A signed number in `w` bytes reads back as it was, where it fits. -/
theorem getInt_putInt (w : Nat) (i : Int) (lo : -(256 ^ w : Nat) ≤ 2 * i) (hi : 2 * i < (256 ^ w : Nat)) :
    getInt (putInt w i) = i := by
  have pos : (0 : Int) < (256 ^ w : Nat) := by exact_mod_cast Nat.pow_pos (by decide)
  generalize hM : ((256 ^ w : Nat) : Int) = M at *
  have r₀ : 0 ≤ i % M := Int.emod_nonneg _ (by omega)
  have r₁ : i % M < M := Int.emod_lt_of_pos _ pos
  have back : getNat (putInt w i) = (i % M).toNat := by
    unfold putInt
    rw [hM]
    apply getNat_putNat
    omega
  have val : i % M = if 0 ≤ i then i else i + M := by
    split
    · exact Int.emod_eq_of_lt ‹_› (by omega)
    · rw [← Int.add_emod_right]
      exact Int.emod_eq_of_lt (by omega) (by omega)
  unfold getInt
  rw [back, putInt_length]
  split at val <;> split <;> omega

@[simp] theorem putBool_length (b : Bool) : (putBool b).length = 1 := putNat_length _ _

@[simp] theorem putOption_length (w : Nat) (part : Option (List Byte)) (h : ∀ p ∈ part, p.length = w) :
    (putOption w part).length = w + 1 := by
  cases part with
  | none => simp [putOption, Nat.add_comm]
  | some p => simp [putOption, h p rfl, Nat.add_comm]

@[simp] theorem putOptNat_length (w : Nat) (n : Option Nat) : (putOptNat w n).length = w + 1 :=
  putOption_length w _ (by cases n <;> simp)

/-! ### Fields of a row of bytes -/

/-- The field that starts where a prefix ends. -/
theorem slice_append (a b c : List Byte) (at' w : Nat) (ha : a.length = at') (hb : b.length = w) :
    slice (a ++ (b ++ c)) at' w = b := by
  subst ha
  subst hb
  simp [slice]

theorem slice_append_last (a b : List Byte) (at' w : Nat) (ha : a.length = at') (hb : b.length = w) :
    slice (a ++ b) at' w = b := by
  simpa using slice_append a b [] at' w ha hb

/-- The number in a field that starts where a prefix ends. -/
theorem fieldAt_append (a c : List Byte) (at' w n : Nat) (ha : a.length = at') (h : n < 256 ^ w) :
    fieldAt (a ++ (putNat w n ++ c)) at' w = n := by
  rw [fieldAt, slice_append a _ c at' w ha (putNat_length w n), getNat_putNat w n h]

theorem fieldAt_append_last (a : List Byte) (at' w n : Nat) (ha : a.length = at') (h : n < 256 ^ w) :
    fieldAt (a ++ putNat w n) at' w = n := by
  simpa using fieldAt_append a [] at' w n ha h

/-- An optional number reads back as it was. -/
theorem optionAt_putOptNat (a c : List Byte) (at' w : Nat) (n : Option Nat) (ha : a.length = at')
    (h : ∀ v ∈ n, v < 256 ^ w) : optionAt (a ++ (putOptNat w n ++ c)) at' w = some n := by
  cases n with
  | none =>
    have p : fieldAt (a ++ (putOptNat w none ++ c)) at' 1 = 0 := by
      simpa [putOptNat, putOption] using fieldAt_append a (putNat w 0 ++ c) at' 1 0 ha (by decide)
    simp [optionAt, presenceAt, p]
  | some v =>
    have p : fieldAt (a ++ (putOptNat w (some v) ++ c)) at' 1 = 1 := by
      simpa [putOptNat, putOption] using fieldAt_append a (putNat w v ++ c) at' 1 1 ha (by decide)
    have q : fieldAt (a ++ (putOptNat w (some v) ++ c)) (at' + 1) w = v := by
      have := fieldAt_append (a ++ putNat 1 1) c (at' + 1) w v (by simp [ha]) (h v rfl)
      simpa [putOptNat, putOption] using this
    simp [optionAt, presenceAt, p, q]

end Sys2Proof.Machine
end

