-- ==== Sys2Proof/Tests/Slice0.lean ====
section
/-! SUPPORT. Tests: what well-formedness refuses; commands against the manual's worked examples; and for each statement with
hypotheses a concrete state and operands that meet them. -/

namespace Sys2Proof.Tests

open Sys2Proof.Machine

set_option Elab.async false

/-! ### Helpers -/

/-- The state a command leaves. -/
def after (c : Instr) (s : State) : State :=
  match exec c s with
  | .next t => t
  | _ => s

theorem exec_after (c : Instr) (s : State) : exec c s = .next (after c s) := by
  obtain ⟨t, h⟩ := exec_next c s
  simp [after, h]

/-- The state some commands leave, one after another. -/
def afterAll (cs : List Instr) (s : State) : State := cs.foldl (fun s c => after c s) s

/-- The code of the reply last sent. -/
def codeOf (s : State) : Option ReplyCode := s.link.reply.map (·.code)

/-- The body of the reply last sent. -/
def bodyOf (s : State) : Option (List Byte) := s.link.reply.map (·.body)

/-- A time of day on day 100, in utility time. -/
def at100 (hours minutes seconds : Nat) : Nat := 100 * 86400 + hours * 3600 + minutes * 60 + seconds

/-! ### Well-formedness refuses what cannot be sent -/

theorem test_payload_of_1025_bytes_is_ill_formed : (Instr.partStatus 0 (List.replicate 1025 0)).wellFormed = false := by decide +kernel
theorem test_payload_of_1024_bytes_is_well_formed : (Instr.partStatus 0 (List.replicate 1024 0)).wellFormed = true := by decide +kernel
theorem test_catalogue_kind_is_not_unknown : (Instr.unknownKind 0x52 0 []).wellFormed = false := by decide
theorem test_other_kind_is_unknown : (Instr.unknownKind 0x53 0 []).wellFormed = true := by decide

/-! ### Bytes (R172, and the CRC's published check value) -/

theorem test_crc_check_value : crc [0x31, 0x32, 0x33, 0x34, 0x35, 0x36, 0x37, 0x38, 0x39] = 0x29B1 := by decide +kernel
theorem test_multibyte_is_little_endian : putNat 2 1024 = [0x00, 0x04] := by decide
theorem test_signed_is_twos_complement : putInt 4 (-900) = [0x7C, 0xFC, 0xFF, 0xFF] := by decide

/-! ### Chapter 1: building and changing a boundary -/

def add1 : Instr := .addMeter 1 (putAddMeter ⟨70112001, ⟨0, 1, 10, 7, 40000⟩⟩)
def add2 : Instr := .addMeter 2 (putAddMeter ⟨70112450, ⟨0, 0, 10, 6, 15000⟩⟩)
def attach1 : Instr := .attachMeter 3 (putAttach ⟨70112001, 0, 12⟩)
def attach2 : Instr := .attachMeter 4 (putAttach ⟨70112450, 12, 13⟩)
/-- After step 4 of the example. -/
def boundary : State := afterAll [add1, add2, attach1, attach2] { State.reset with clock := some 3600000 }

theorem test_add_takes_lowest_channel : bodyOf (afterAll [add1, add2] State.reset) = some [1, 0] := by decide +kernel
theorem test_attach_lists_in_channel_order :
    (boundary.zone 12).attach = [⟨0, .toSide⟩, ⟨1, .fromSide⟩] ∧ (boundary.zone 13).attach = [⟨1, .toSide⟩] := by decide +kernel
theorem test_attach_equal_zones : codeOf (after (.attachMeter 5 (putAttach ⟨70112450, 12, 12⟩)) boundary) = some .badField ∧
    bodyOf (after (.attachMeter 5 (putAttach ⟨70112450, 12, 12⟩)) boundary) = some [3] := by decide +kernel
theorem test_attach_of_active_zone : codeOf (afterAll [.zoneStart 6 (putZoneStart ⟨12, 0, none⟩),
    .attachMeter 7 (putAttach ⟨70112450, 12, 0⟩)] boundary) = some .zoneActive := by decide +kernel
theorem test_remove_frees_the_channel : ((after (.removeMeter 8 (putNat 4 70112450)) boundary).zone 12).attach = [⟨0, .toSide⟩] ∧
    (after (.removeMeter 8 (putNat 4 70112450)) boundary).meters.length = 1 := by decide +kernel
theorem test_meter_read_of_free_channel : codeOf (after (.meterRead 9 (putMeterRead ⟨1, 2⟩)) boundary) = some .unknownMeter := by decide +kernel

/-! ### Chapter 1: replacing a meter during a night -/

/-- Zone 12 with a PENDING night 02:00 to 04:00, and the old meter with its run. -/
def oldMeter : Meter where
  serial := 70112001
  kind := .register
  flow := .twoWay
  unit := 10
  digits := some 7
  qmax := 40000
  fromZone := 0
  toZone := 12
  state := .live
  base := some ⟨at100 2 10 0, some 4410230, some 118, none⟩
  lastFault := none
  fromCover := none
  toCover := some ⟨some (at100 1 40 0), at100 2 10 0, 0, false⟩

def replaceRequest : ReplaceReq := ⟨70112001, some 70112977, ⟨1, 0, 100, 0, 40000⟩, at100 2 40 0, 0, none, some 0⟩

def beforeReplace : State :=
  { State.reset with clock := some (at100 2 41 0), meters := [(0, oldMeter)], serials := [(70112001, 0)] }

theorem test_replace_during_a_night : (after (.replaceMeter 1 (putReplace replaceRequest)) beforeReplace).meter? 0 =
    some { oldMeter with
      serial := 70112977
      kind := .pulse
      flow := .oneWay
      unit := 100
      digits := none
      base := some ⟨at100 2 40 0, none, none, some 0⟩
      toCover := some ⟨none, at100 2 10 0, 0, false⟩ } := by decide +kernel

theorem test_late_record_of_the_old_device : codeOf (afterAll [.replaceMeter 1 (putReplace replaceRequest),
    .reading 2 (putRecord ⟨70112001, at100 2 25 0, 5, some 1, none⟩)] beforeReplace) = some .unknownMeter := by decide +kernel

/-! ### Chapter 2: regression, overrange, a pulse meter's sequence, a batch -/

def coverNone : Cover := Cover.empty
def meter2450 : Meter where
  serial := 70112450
  kind := .register
  flow := .oneWay
  unit := 10
  digits := some 6
  qmax := 15000
  fromZone := 12
  toZone := 13
  state := .live
  base := some ⟨at100 2 30 0, some 999620, none, none⟩
  lastFault := none
  fromCover := some coverNone
  toCover := some coverNone

def night12 : Night := newNight Geometry.default 0 (at100 2 0 0) false
def learning12 : Zone := { Zone.reset with attach := [⟨1, .fromSide⟩], monitor := .learning, night := some night12 }
def learning13 : Zone := { Zone.reset with attach := [⟨1, .toSide⟩], monitor := .learning, night := some night12 }
def intake2 : State :=
  { State.reset with
    clock := some (at100 3 45 0)
    meters := [(1, meter2450)]
    serials := [(70112450, 1)]
    zones := [(12, learning12), (13, learning13)] }
def read2450 (time forward : Nat) : Instr := .reading 1 (putRecord ⟨70112450, time, forward, none, none⟩)

theorem test_rollover_is_accepted : codeOf (after (read2450 (at100 2 45 0) 410) intake2) = some .ok ∧
    ((after (read2450 (at100 2 45 0) 410) intake2).zone 13).night.map (·.slots) = some [0, 0, 7900, 0, 0, 0, 0, 0] := by decide +kernel
theorem test_regression_fills_the_capture :
    let s := afterAll [read2450 (at100 2 45 0) 410, read2450 (at100 3 0 0) 395] intake2
    bodyOf s = some [2] ∧ s.capture = some ⟨.meterFault .regression, some 70112450, none, at100 3 0 0, false⟩ ∧
      (s.meter? 1).map (·.toCover) = some (some ⟨none, at100 2 45 0, 0x0004, true⟩) := by decide +kernel
theorem test_lost_report_before_the_window :
    classify 16 { meter2450 with kind := .pulse, digits := none, unit := 100, qmax := 40000 }
      ⟨at100 1 30 0, none, none, some 0⟩ ⟨70112977, at100 2 0 0, 55, none, some 2⟩ = .gap .lostReports := by decide +kernel
theorem test_long_gap_is_strict :
    classify 16 meter2450 ⟨0, some 5, none, none⟩ ⟨70112450, 14400, 5, none, none⟩ = .accepted 0 0 ∧
    classify 16 meter2450 ⟨0, some 5, none, none⟩ ⟨70112450, 14401, 5, none, none⟩ = .gap .longGap := by decide +kernel

def meter3320 : Meter :=
  { oldMeter with serial := 70113320, toZone := 0, toCover := none, base := some ⟨at100 3 0 0, some 2204150, some 95, none⟩ }
def batch3320 : List ReadingRecord :=
  [⟨70113320, at100 3 15 0, 2204710, some 95, none⟩, ⟨70113320, at100 3 15 0, 2204710, some 95, none⟩,
   ⟨70113320, at100 3 22 30, 2204800, some 96, none⟩, ⟨70119999, at100 3 16 0, 10, some 0, none⟩,
   ⟨70113320, at100 3 21 0, 2204900, none, none⟩, ⟨70113320, at100 3 21 0, 2204980, some 97, none⟩]

/-- The codes OK, DUPLICATE, FUTURE_TIME, UNKNOWN_METER, BAD_FIELD with detail 4, OK. -/
theorem test_batch_of_six : bodyOf (after (.readingBatch 1 (putBatch batch3320) [])
    { State.reset with clock := some (at100 3 20 0), meters := [(0, meter3320)], serials := [(70113320, 0)] }) =
    some [0x00, 0, 0x03, 0, 0x22, 0, 0x1D, 0, 0x12, 4, 0x00, 0] := by decide +kernel

/-! ### Chapter 3: windows and nights -/

/-- Zone 30 of the long silence: candidate 204 is the first whose end is after the clock. -/
theorem test_window_after_a_long_silence :
    chooseStart Geometry.default 0 17560000 (some ⟨17287200, 17294400⟩) = 17632800 ∧ nightLabel 17632800 0 = 204 := by decide +kernel
theorem test_window_end_must_be_later_than_the_clock :
    nightLabel (chooseStart Geometry.default 0 17640000 (some ⟨17287200, 17294400⟩)) 0 = 205 := by decide +kernel

def night7 (st : NightState) (cause : Option CloseCause) : Night := { night12 with state := st, cause := cause }
def watch7 (st : NightState) (cause : Option CloseCause) : Zone :=
  { Zone.reset with
    attach := [⟨0, .toSide⟩], monitor := .watch, night := some (night7 st cause)
    judge := { Judgement.reset with baseline := some 100 } }
def meter7 : Meter :=
  { meter2450 with serial := 7, fromZone := 0, toZone := 7, fromCover := none, base := some ⟨at100 1 45 0, some 100, none, none⟩ }
/-- Zone 7 of the forced close: a PENDING night 02:00 to 04:00, the clock at 03:50. -/
def forcing (st : NightState) (cause : Option CloseCause) : State :=
  { State.reset with
    clock := some (at100 3 50 0)
    meters := [(0, meter7)]
    serials := [(7, 0)]
    zones := [(7, watch7 st cause)] }
def force7 : Instr := .forceClose 1 [7]
def mark (time : Nat) : Instr := .clockMark 2 (putNat 4 time)

theorem test_force_pending : codeOf (after force7 (forcing .pending none)) = some .notEnded := by decide +kernel
theorem test_force_then_deadline : (afterAll [mark (at100 4 0 0), force7, mark (at100 10 0 0)] (forcing .pending none)).closeQueue = [.zone 7] ∧
    ((afterAll [mark (at100 4 0 0), force7, mark (at100 10 0 0)] (forcing .pending none)).zone 7).night.map (·.cause) =
      some (some .forced) := by decide +kernel
theorem test_deadline_without_force :
    bodyOf (afterAll [mark (at100 4 0 0), mark (at100 10 0 0)] (forcing .pending none)) =
      some (putNat 4 (at100 10 0 0) ++ [1]) := by decide +kernel
theorem test_exclude_pending : ((after (.excludeNight 1 [7]) (forcing .pending none)).zone 7).night.map (·.excluded) = some true := by decide +kernel
theorem test_exclude_queued : codeOf (after (.excludeNight 1 [7]) (forcing .queued (some .complete))) = some .tooLate := by decide +kernel
theorem test_geometry_is_staged_outside_standby :
    ((after (.zoneSet 1 (putZoneSet 7 [(2, 12), (5, 5)])) (forcing .pending none)).zone 7).staged =
      ⟨none, some 12, none, none, some 5⟩ := by decide +kernel

/-! ### Chapter 4: an interval inside the window -/

theorem test_portions_inside_the_window :
    (List.range 4).map (portion 7000 (at100 2 5 0) (at100 2 52 30) (at100 2 0 0)) = [1473, 2211, 2210, 1106] := by decide +kernel
theorem test_net_of_a_two_way_meter :
    netPortion ⟨1, at100 1 55 0, at100 2 25 0, 4500, 100⟩ (at100 2 0 0) 1 = 1466 := by decide +kernel

/-! ### Chapter 5: the engine -/

def queued7 : State := { forcing .queued (some .complete) with closeQueue := [.zone 7, .test], test := ⟨.queued 2, none⟩ }
def item7 : CloseItem := ⟨7, night7 .closing (some .complete), false, Params.default⟩
def closing7 : State := { forcing .closing (some .complete) with engine := some (.close item7) }

theorem test_start_takes_the_head : (after .closeStart queued7).closeQueue = [.test] ∧
    nightState (after .closeStart queued7) 7 = some .closing := by decide +kernel
theorem test_test_waits_behind_the_zone : after .testRunStart queued7 = queued7 := by decide +kernel
theorem test_completion_frees_and_creates : (after .closeCompletion closing7).engine = none ∧
    ((after .closeCompletion closing7).zone 7).lastClosed = some ⟨at100 2 0 0, at100 4 0 0⟩ ∧
    ((after .closeCompletion closing7).zone 7).night.map (·.ws) = some (at100 26 0 0) := by decide +kernel
theorem test_stop_while_closing_waits : ((after (.zoneStop 1 [7]) closing7).zone 7).stopPending = true ∧
    ((afterAll [.zoneStop 1 [7], .closeCompletion] closing7).zone 7).monitor = .standby := by decide +kernel
theorem test_reset_voids_the_close : (after (.resetZone 1 [7]) closing7).engine = some (.close { item7 with void := true }) ∧
    ((afterAll [.resetZone 1 [7], .closeCompletion] closing7).zone 7).published = none := by decide +kernel

/-! ### Chapters 6 and 7 -/

/-- R98: the least run of the example's complete night, 218,200 mL over four slots, is 2,182 dL/h. -/
theorem test_complete_night : runMin (runMinNight.map some) 4 2 = ⟨true, some 2182, false⟩ := by decide +kernel
theorem test_baseline_moves_down : updateBaseline 1915 1860 3 = 1908 := by decide +kernel

def suspect27 : State :=
  { State.reset with
    clock := some 5
    zones := [(27, { Zone.reset with
      monitor := .suspect, night := some night12
      judge := ⟨some 1700, 0, [.nonHit, .nonHit, .hit, .hit], 0, 0, false, some 2450⟩ })] }

theorem test_lower_window_in_an_armed_zone : codeOf (after (.zoneSet 1 (putZoneSet 27 [(12, 4)])) suspect27) = some .zoneActive := by decide +kernel
theorem test_accept_level : ((after (.acceptLevel 1 [27]) suspect27).zone 27).judge = ⟨some 2450, 0, [], 0, 0, false, some 2450⟩ ∧
    ((after (.acceptLevel 1 [27]) suspect27).zone 27).monitor = .watch ∧
    (after (.acceptLevel 1 [27]) suspect27).link.notices = [] := by decide +kernel
theorem test_accept_level_in_standby : codeOf (after (.acceptLevel 1 [26]) suspect27) = some .notActive := by decide +kernel
theorem test_start_of_a_zone_without_meters : codeOf (after (.zoneStart 1 (putZoneStart ⟨9, 0, none⟩)) suspect27) = some .noMeters := by decide +kernel
theorem test_survey_of_an_active_zone : codeOf (after (.zoneSurvey 1 [27]) suspect27) = some .zoneActive := by decide +kernel

/-! ### Chapter 8 -/

theorem test_ack_keeps_a_live_cause :
    bodyOf (after (.ackZone 1 [33]) { State.reset with zones := [(33, { Zone.reset with
      live := ⟨false, false, true, false, false⟩, held := ⟨true, false, true, false, false⟩, summary := true })] }) =
    some [0, 4] := by decide +kernel
theorem test_hold_twice : codeOf (afterAll [.reportHold 1 [], .reportHold 2 []] State.reset) = some .alreadyHeld := by decide +kernel
theorem test_release_twice : codeOf (afterAll [.reportHold 1 [], .reportRelease 2 [], .reportRelease 3 []] State.reset) = some .notHeld := by decide +kernel
theorem test_clear_capture_returns_the_record :
    bodyOf (after (.clearCapture 1 []) { State.reset with capture := some ⟨.meterFault .overrange, some 70133021, none, 3, true⟩ }) =
    some (1 :: 1 :: 1 :: (putNat 4 70133021 ++ [0, 0] ++ putNat 4 3 ++ [1])) := by decide +kernel
theorem test_capture_read_of_an_empty_record : bodyOf (after (.captureRead 1 []) State.reset) = some (List.replicate 14 0) := by decide +kernel
theorem test_profile_of_an_unclosed_zone : codeOf (after (.zoneProfile 1 [12]) State.reset) = some .noNight := by decide +kernel
theorem test_zone_read_of_zone_0 : bodyOf (after (.zoneRead 1 [0]) State.reset) = some [1] := by decide +kernel

/-! ### Chapter 9: the membership limit -/

def groupSet (g : Nat) (members : List Nat) : Instr := .groupSet 1 (putGroupSet ⟨g, 0, 0, 0, 0, members.length, members⟩)
def inFourGroups : State := afterAll [groupSet 1 [12], groupSet 2 [12], groupSet 3 [12], groupSet 4 [12]] State.reset

theorem test_fifth_group : codeOf (after (groupSet 5 [40, 12]) inFourGroups) = some .groupFull := by decide +kernel
theorem test_repeated_member : bodyOf (after (groupSet 5 [40, 40]) inFourGroups) = some [8] := by decide +kernel
theorem test_members_are_ascending : ((after (groupSet 4 [40, 12, 13]) inFourGroups).group 4).members = [12, 13, 40] := by decide +kernel
theorem test_group_read_of_group_33 : bodyOf (after (.groupRead 1 [33]) State.reset) = some [1] := by decide +kernel

/-! ### Chapter 10 -/

def frozen12 : State := { State.reset with zones := [(12, { Zone.reset with frozen := true, unwritten := 4 })] }

theorem test_unfreeze_keeps_the_unwritten_count : bodyOf (after (.unfreeze 1 [12]) frozen12) = some [1, 0, 4, 0] ∧
    ((after (.unfreeze 1 [12]) frozen12).zone 12).unwritten = 4 := by decide +kernel
theorem test_history_of_an_empty_ring : codeOf (after (.historyRead 1 [12, 0, 3]) frozen12) = some .noNight := by decide +kernel

/-! ### Chapter 11: an audit -/

theorem test_second_test_is_busy : codeOf (afterAll [.testStart 1 [5], .testStart 2 [2]] State.reset) = some .busy := by decide +kernel
theorem test_cancel_records_aborted : (afterAll [.testStart 1 [5], .testCancel 2 []] State.reset).test =
    ⟨.idle, some ⟨5, .aborted, none, none, none⟩⟩ := by decide +kernel
theorem test_audit_finds_the_unbased_meter :
    (afterAll [.testStart 1 [5], .testRunStart, .testRunCompletion]
      { State.reset with meters := [(2, { meter7 with serial := 70190002, state := .unbased })], zones := [(14, { learning12 with attach := [⟨2, .toSide⟩] })] }).test.result =
    some ⟨5, .fail, none, some ⟨14, 70190002, 2⟩, none⟩ := by decide +kernel
theorem test_read_and_clear_the_result : bodyOf (afterAll [.testStart 1 [5], .testCancel 2 [], .testClear 3 [], .testRead 4 []] State.reset) =
    some (List.replicate 21 0) := by decide +kernel

/-! ### Chapter 12 -/

theorem test_coalesced_state_keeps_its_from_state :
    (({ State.reset with link := { State.reset.link with notices := [.zoneState 12 .suspect .leak] } }).raise
      (.zoneState 12 .leak .watch)).link.notices = [.zoneState 12 .suspect .watch] := by decide +kernel
theorem test_fetch_of_96_with_overflow :
    let s : State := { State.reset with link := { State.reset.link with
      notices := (List.range 96).map fun i => .meterStale (i + 1) i 0, overflow := true } }
    (after (.noticeFetch 1 []) s).link.notices.length = 89 ∧ (bodyOf (after (.noticeFetch 1 []) s)).map (·.take 3) = some [8, 89, 7] := by
  decide +kernel
theorem test_offset_must_be_a_multiple_of_900 : bodyOf (after (.partSet 1 (putPartSet [(4, 450)])) State.reset) = some [3] := by decide +kernel
/-- R181's defaults but for the offset, in the widths of R186's ranges. -/
theorem test_part_set_reply_widths : bodyOf (after (.partSet 1 (putPartSet [(4, -900)])) State.reset) =
    some [16, 120, 0, 24, 0x7C, 0xFC, 0xFF, 0xFF] := by decide +kernel
theorem test_restart_level_2 : bodyOf (after (.restart 1 [2]) State.reset) = some [1] := by decide +kernel
theorem test_runtime_restart_unsets_the_clock :
    (afterAll [.restart 1 [0], .restartTakesEffect] (forcing .pending none)).clock = none ∧
    ((afterAll [.restart 1 [0], .restartTakesEffect] (forcing .pending none)).zone 7).attach = [⟨0, .toSide⟩] := by decide +kernel
theorem test_status_is_taken_in_its_turn : (after (.partStatus 7 []) (after (.frameReceived (frameBytes ⟨0x51, 7, []⟩)) State.reset)).link.intake = [] := by
  decide +kernel
theorem test_gap_inside_a_frame : (afterAll [.frameReceived [0xA5, 0x00], .interByteGap] State.reset).link.receiver = .hunt := by decide +kernel
theorem test_unknown_kind : codeOf (after (.unknownKind 0x99 1 []) State.reset) = some .unknownKind := by decide +kernel
theorem test_pin_cycle_takes_the_strap :
    (afterAll [.resetPinAssert, .resetPinRelease true, .startupReady] State.reset).link = Link.reset .ready .baud460800 := by
  decide +kernel

/-! ### States that meet the hypotheses of the statements -/

/-- The state at a step, one command waiting. -/
def waiting (c : Instr) (s : State) : State := { s with pending := [c] }

theorem zone_of_one {s : State} {k : Nat} {zn : Zone} (h : s.zones = [(k, zn)]) (z : Nat) :
    s.zone z = if z = k then zn else Zone.reset := by
  by_cases e : z = k
  · simp [State.zone, Table.read, h, Table.find?, e]
  · simp [State.zone, Table.read, h, Table.find?, e, Ne.symm e]

theorem meter_of_one {s : State} {k : Nat} {m : Meter} (h : s.meters = [(k, m)]) (ch : Nat) :
    s.meter? ch = if ch = k then some m else none := by
  by_cases e : ch = k
  · simp [State.meter?, h, Table.find?, e]
  · simp [State.meter?, h, Table.find?, e, Ne.symm e]

/-- Zone 7 in STANDBY with its meter. -/
def standby7 : State :=
  { State.reset with
    clock := some (at100 3 50 0), meters := [(0, meter7)], serials := [(7, 0)]
    zones := [(7, { Zone.reset with attach := [⟨0, .toSide⟩] })] }

/-! The steps, frames and replies. -/

theorem witness_StepRunsTheFrontCommand : State.reset.pending = [] := rfl

theorem witness_ReceiverReadsBackEveryFrame :
    State.reset.link.power = .ready ∧ State.reset.link.receiver = .hunt ∧ (∀ b ∈ ([0x00, 0x5A] : List Byte), b ≠ 0xA5) ∧
      (Frame.mk 0x51 7 (List.replicate 1024 0xA5)).payload.length ≤ 1024 := by decide +kernel

theorem witness_ReceiverDiscardsSilently :
    State.reset.link.receiver = .hunt ∧ (∀ b ∈ ([0x5A] : List Byte), b ≠ 0xA5) ∧
      1024 < (0x01 : Byte).toNat + 256 * (0x04 : Byte).toNat ∧ (Frame.mk 0x51 7 []).payload.length ≤ 1024 ∧
      (0 : Byte).toNat + 256 * (0 : Byte).toNat ≠ (crc (frameCovered ⟨0x51, 7, []⟩)).toNat := by decide +kernel

theorem witness_RepliesEchoTheirRequest :
    (Instr.partStatus 7 []).frame? = some ⟨0x51, 7, []⟩ ∧ (Instr.partStatus 7 []).wellFormed = true ∧
      Takes State.reset 0x51 7 [] := by decide +kernel

theorem witness_RefusedRequestsChangeNothing :
    (Instr.forceClose 1 [7]).frame? = some ⟨0x25, 1, [7]⟩ ∧ (Instr.forceClose 1 [7]).wellFormed = true ∧
      Takes State.reset 0x25 1 [7] ∧ exec (.forceClose 1 [7]) State.reset = .next (after (.forceClose 1 [7]) State.reset) ∧
      (after (.forceClose 1 [7]) State.reset).link.reply = some ⟨0xA5, 1, .notActive, 0, []⟩ ∧ ¬ ReplyCode.notActive.taken := by
  refine ⟨?_, ?_, ?_, exec_after _ _, ?_, ?_⟩ <;> decide +kernel

theorem witness_MalformedRequestsAreRefused :
    ((0x53 : Byte).toNat ∉ catalogue ∧ Takes State.reset 0x53 1 []) ∧
    ((Instr.removeMeter 1 [1, 0, 0]).frame? = some ⟨0x02, 1, [1, 0, 0]⟩ ∧ (Instr.removeMeter 1 [1, 0, 0]).wellFormed = true ∧
      fixedLength (0x02 : Byte).toNat = some 4 ∧ ([1, 0, 0] : List Byte).length ≠ 4 ∧ Takes State.reset 0x02 1 [1, 0, 0]) ∧
    ((Instr.reading 1 (List.replicate 13 0)).frame? = some ⟨0x10, 1, List.replicate 13 0⟩ ∧
      fixedPart (0x10 : Byte).toNat = some 14 ∧ (List.replicate 13 (0 : Byte)).length < 14 ∧
      Takes State.reset 0x10 1 (List.replicate 13 0)) := by decide +kernel

def fullRecord : ReadingRecord := ⟨2 ^ 32 - 1, 2 ^ 32 - 1, 2 ^ 40 - 1, some (2 ^ 40 - 1), some 255⟩

/-- A payload for each kind whose length R176 step 2 works out: REPLACE_METER and ZONE_START with a presence byte of 2, READING
with presence bits that ask for one byte more, and three counts that ask for another length. -/
theorem witness_MalformedLengths :
    LengthUnmet 0x03 (putNat 4 7 ++ [2] ++ putNat 30 0) ∧ LengthUnmet 0x10 (putNat 8 7 ++ [2] ++ putNat 5 0) ∧
      LengthUnmet 0x10 (putNat 8 7 ++ [4] ++ putNat 5 0) ∧ LengthUnmet 0x19 (putNat 1 4 ++ putNat 19 0) ∧
      LengthUnmet 0x20 (putNat 1 7 ++ putNat 1 20 ++ putNat 101 0) ∧ LengthUnmet 0x21 (putNat 2 7 ++ [2] ++ putNat 4 0) ∧
      LengthUnmet 0x30 (putNat 5 7 ++ putNat 1 32 ++ putNat 31 0) := by
  simp only [LengthUnmet]
  decide +kernel

theorem witness_MalformedBatches :
    (∀ r ∈ [fullRecord], r.Fits) ∧ ([fullRecord].length < 2 ∧ ([0, 0] : List Byte).length < 14) ∧
      3 < fieldAt (List.replicate 14 (4 : Byte)) 8 1 ∧
      (fieldAt (List.replicate 14 (3 : Byte)) 8 1 = 3 ∧ (List.replicate 14 (3 : Byte)).length < 14 + 5 * (3 % 2) + 3 / 2) ∧
      ([fullRecord].length = 1 ∧ ([0] : List Byte) ≠ []) ∧
      Takes State.reset 0x11 1 (putNat 1 1 ++ [fullRecord].flatMap putRecord ++ [0]) := by decide +kernel

/-- The part between the release of the reset pin and its readiness. -/
def startingUp : State := { State.reset with link := Link.reset .starting .baud115200 }

theorem witness_NothingIsTakenWhileHeld :
    (startingUp.link.power ≠ .ready ∧ (Instr.partStatus 1 []).frame?.isSome = true) ∧
    ({ State.reset with link := { State.reset.link with restart := some .full } } : State).link.restart ≠ none ∧
    closing7.engine ≠ none ∧ State.reset.closeQueue = [] ∧ State.reset.engine = none ∧ State.reset.link.restart = none ∧
    (({ State.reset with link := { State.reset.link with intake := [⟨0x50, 1, []⟩] } } : State).link.intake.head? =
      some ⟨0x50, 1, []⟩ ∧ (⟨0x50, 1, []⟩ : Frame) ≠ ⟨0x51, 1, []⟩) := by decide +kernel

theorem witness_RequestsKeepTheLinkAndGroups :
    (Instr.zoneStop 1 [7]).frame? = some ⟨0x22, 1, [7]⟩ ∧
      exec (.zoneStop 1 [7]) (forcing .pending none) = .next (after (.zoneStop 1 [7]) (forcing .pending none)) ∧
      (0x22 : Byte) ≠ 0x52 ∧ (0x25 : Byte).toNat ∉ [0x11, 0x18, 0x20, 0x21, 0x22, 0x23, 0x26, 0x27, 0x28, 0x30, 0x50] ∧
      (∀ tag p, Instr.zoneStop 1 [7] ≠ .groupSet tag p) ∧ Instr.zoneStop 1 [7] ≠ .restartTakesEffect ∧
      ∀ high, Instr.zoneStop 1 [7] ≠ .resetPinRelease high :=
  ⟨by decide, exec_after _ _, by decide, by decide, by simp, by simp, by simp⟩

/-! Bytes. -/

def fullSpec : MeterSpec := ⟨255, 255, 65535, 255, 2 ^ 32 - 1⟩

theorem witness_RequestFieldsReadBack :
    2 ^ 32 - 1 < 2 ^ 32 ∧ fullSpec.Fits ∧ (255 < 256) ∧ (∀ n ∈ some (2 ^ 32 - 1), n < 2 ^ 32) ∧
    (∀ v ∈ some (2 ^ 40 - 1), v < 2 ^ 40) ∧ (∀ q ∈ some 255, q < 256) ∧
    (∀ e ∈ ([(255, 2 ^ 31 - 1), (0, -(2 ^ 31)), (4, 0), (4, 1)] : List (Nat × Int)), EntryFits e) ∧
    (∀ e ∈ (List.replicate 20 (20, -1) : List (Nat × Int)), EntryFits e) ∧
    (32 ≤ 32 ∧ (List.replicate 32 255).length = 32 ∧ ∀ z ∈ List.replicate 32 255, z < 256) ∧
    (List.replicate 16 fullRecord).length ≤ 16 ∧ fullRecord.Fits ∧ ∀ r ∈ List.replicate 16 fullRecord, r.Fits := by
  decide +kernel

def published : Published where
  label := -1
  cause := some .forced
  valid := true
  excluded := false
  survey := true
  held := false
  saturated := true
  mnf := some (-20000000)
  estimate := some 20000000
  baseline := some 20000000
  excess := some (-40000000)
  hit := .judged .hit
  covered := 16
  missing := 16
  live := CauseSet.all
  stateAfter := .survey

/-- A meter, TWO_WAY and PULSE, with every value at the greatest that its bytes carry. -/
def fullMeter : Meter where
  serial := 2 ^ 32 - 1
  kind := .pulse
  flow := .twoWay
  unit := 65535
  digits := some 255
  qmax := 2 ^ 32 - 1
  fromZone := 255
  toZone := 255
  state := .stale
  base := some ⟨2 ^ 32 - 1, some (2 ^ 40 - 1), some (2 ^ 40 - 1), some 255⟩
  lastFault := some (.longGap, 2 ^ 32 - 1)
  fromCover := some ⟨some (2 ^ 32 - 1), 2 ^ 32 - 1, 0xFFFF, true⟩
  toCover := some ⟨some (2 ^ 32 - 1), 2 ^ 32 - 1, 0xFFFF, true⟩

def fullNightRecord : NightRecord :=
  ⟨-(2 ^ 31), 2 ^ 40 - 1, some .forced, 2 ^ 32 - 1, true, true, true, true, true, some (-(2 ^ 31)), some (2 ^ 32 - 1),
    some (2 ^ 32 - 1), some (2 ^ 31 - 1), .judged .hit, 255, 255, CauseSet.all, .survey, true⟩

theorem witness_RecordLayouts :
    (∀ side, ∀ c ∈ fullMeter.coverOn side, c.Fits) ∧ fullMeter.Fits ∧ (65535 < 65536) ∧
    ((Frame.mk 0x51 7 (List.replicate 1024 0xA5)).payload.length ≤ 1024 ∧ fullRecord.Fits) ∧
    ({ night12 with label := -1, ws := 2 ^ 40 - 1, we := 2 ^ 40 - 1, deadline := 2 ^ 40 - 1, cause := some .deadline } : Night).Fits ∧
    (⟨some (2 ^ 32 - 1), 255, List.replicate 15 .hit, 255, 255, true, some (-(2 ^ 31))⟩ : Judgement).Fits ∧
    fullNightRecord.Fits ∧
    ((∀ v ∈ some (-(2 ^ 63) : Int), -(2 ^ 63) ≤ v ∧ v < 2 ^ 63) ∧ 255 < 256) ∧
    (⟨.zoneCause .dark, some (2 ^ 32 - 1), some 255, 2 ^ 32 - 1, true⟩ : Capture).Fits ∧
    (⟨5, .fail, some 255, some ⟨255, 2 ^ 32 - 1, 65535⟩, some (2 ^ 32 - 1)⟩ : TestResult).Fits := by
  have sides : ∀ side, ∀ c ∈ fullMeter.coverOn side, c.Fits := by
    intro side
    cases side <;> decide +kernel
  refine ⟨sides, ⟨?_, ?_, ?_, ?_, ?_, ?_, ?_, ?_, sides⟩, ?_⟩
  case refine_9 => and_intros <;> decide +kernel
  all_goals decide +kernel

/-- The figures of a published record at the bounds of their ranges. -/
theorem witness_RecordLayoutsPublished :
    1 ≤ 1 ∧ -1 ≤ published.label ∧ published.label ≤ 49712 ∧ (∀ f ∈ published.mnf, -20000000 ≤ f ∧ f ≤ 20000000) ∧
      (∀ e ∈ published.estimate, e ≤ 20000000) ∧ (∀ b ∈ published.baseline, b ≤ 20000000) ∧
      (∀ e ∈ published.excess, -40000000 ≤ e ∧ e ≤ 40000000) ∧ published.covered ≤ 16 ∧ published.missing ≤ 16 ∧
      published.cause = some .forced := by decide +kernel

/-! Notices. -/

def manyNotices (n : Nat) : State :=
  { State.reset with link := { State.reset.link with notices := (List.range n).map fun i => .causeHeld (i + 1) CauseSet.all } }

theorem witness_RaisedNoticesCoalesce :
    ((∀ m ∈ (manyNotices 95).link.notices, m.code ≠ (Notice.testDone 1 .pass).code ∨ m.subject ≠ (Notice.testDone 1 .pass).subject) ∧
      (manyNotices 95).link.notices.length < 96) ∧
    ((∀ m ∈ (manyNotices 96).link.notices, m.code ≠ (Notice.testDone 1 .pass).code ∨ m.subject ≠ (Notice.testDone 1 .pass).subject) ∧
      96 ≤ (manyNotices 96).link.notices.length) ∧
    (∃ m ∈ (manyNotices 3).link.notices, m.code = (Notice.causeHeld 2 CauseSet.none).code ∧
      m.subject = (Notice.causeHeld 2 CauseSet.none).subject) ∧
    (manyNotices 3).link.notices[1]? = some (.causeHeld 2 CauseSet.all) ∧
    [Notice.zoneState 12 .suspect .leak][0]? = some (.zoneState 12 .suspect .leak) ∧
    ([Notice.testDone 1 .fail][0]? = some (.testDone 1 .fail) ∧ (Notice.testDone 1 .fail).code = (Notice.testDone 2 .pass).code ∧
      (Notice.testDone 1 .fail).subject = (Notice.testDone 2 .pass).subject ∧ (Notice.testDone 2 .pass).code ≠ 2 ∧
      (Notice.testDone 2 .pass).code ≠ 3) := by decide +kernel

theorem witness_NoticeFetchDelivers :
    Takes (manyNotices 96) 0x50 1 [] ∧
      ∀ n ∈ [Notice.nightClosed 255 (-1) (some .forced) .survey true, .zoneState 255 .leak .watch, .causeHeld 1 CauseSet.all,
        .groupChange 32 true false true true, .meterStale (2 ^ 32 - 1) 65535 (2 ^ 32 - 1), .testDone 255 .aborted], n.Fits := by
  refine ⟨by decide +kernel, ?_⟩
  simp only [List.forall_mem_cons, Notice.Fits]
  and_intros <;> first | decide | exact fun _ h => nomatch h

theorem witness_AttnFollowsTheQueue :
    exec .resetPinAssert (manyNotices 1) = .next (after .resetPinAssert (manyNotices 1)) ∧
    ((after .resetPinAssert (manyNotices 1)).link.power = .inReset ∧
      exec (.resetPinRelease true) (after .resetPinAssert (manyNotices 1)) =
        .next (after (.resetPinRelease true) (after .resetPinAssert (manyNotices 1)))) ∧
    ((after (.restart 1 [1]) (manyNotices 1)).link.restart ≠ none ∧
      exec .restartTakesEffect (after (.restart 1 [1]) (manyNotices 1)) =
        .next (after .restartTakesEffect (after (.restart 1 [1]) (manyNotices 1)))) ∧
    ((Instr.partStatus 7 []).frame? = some ⟨0x51, 7, []⟩ ∧ Takes (manyNotices 1) 0x51 7 [] ∧
      exec (.partStatus 7 []) (manyNotices 1) = .next (after (.partStatus 7 []) (manyNotices 1)) ∧
      (after (.partStatus 7 []) (manyNotices 1)).link.reply.isSome = true) :=
  ⟨exec_after _ _, ⟨by decide +kernel, exec_after _ _⟩, ⟨by decide +kernel, exec_after _ _⟩,
    by decide, by decide +kernel, exec_after _ _, by decide +kernel⟩

/-- A ready part with a frame in reception, a full intake buffer and 96 notices. -/
def busyLink : State :=
  { manyNotices 96 with link := { (manyNotices 96).link with
    receiver := .frame [0, 4], intake := List.replicate 4 ⟨0x51, 7, []⟩ } }

theorem witness_LinkStaysWithinBounds :
    LinkOk (waiting (.noticeFetch 1 []) busyLink) ∧ NoticesOk (waiting (.noticeFetch 1 []) busyLink) ∧
      ∃ t, step (waiting (.noticeFetch 1 []) busyLink) = .next t := by
  refine ⟨⟨by decide +kernel, by decide +kernel, ?_⟩, by decide +kernel, step_next _⟩
  intro got h
  have e : got = [0, 4] := by
    have h' : Receiver.frame [0, 4] = .frame got := h
    injection h' with h'
    exact h'.symm
  subst e
  right
  decide

/-! Part settings, reads, restart and reset. -/

def fourEntries : List (Nat × Int) := [(1, 48), (2, 0), (3, 72), (4, -50400)]

theorem witness_PartSetWritesSettings :
    (1 ≤ fourEntries.length ∧ fourEntries.length ≤ 4 ∧ (fourEntries.map (·.1)).Nodup ∧ (∀ e ∈ fourEntries, PartEntryOk e) ∧
      Takes State.reset 0x19 1 (putPartSet fourEntries)) ∧
    ((0 < 256 ∧ (0 = 0 ∨ 4 < 0)) ∧ Takes State.reset 0x19 1 (putNat 1 0)) ∧
    (5 < 256 ∧ (5 = 0 ∨ 4 < 5)) ∧
    (([(1, 4)] ++ (5, 0) :: [] : List (Nat × Int)).length ≤ 4 ∧ (([(1, 4)] : List (Nat × Int)).map (·.1)).Nodup ∧
      (∀ g ∈ ([(1, 4)] : List (Nat × Int)), PartEntryOk g) ∧ (∀ g ∈ ([(5, 0)] : List (Nat × Int)), EntryFits g) ∧ 4 < 5) ∧
    1 ∈ ([(1, 4)] : List (Nat × Int)).map (·.1) ∧
    (1 ≤ 4 ∧ 4 ∉ ([(1, 4)] : List (Nat × Int)).map (·.1) ∧ ¬ PartEntryOk (4, 450)) := by
  and_intros <;> decide +kernel

def ringed : State := { State.reset with zones := [(12, { Zone.reset with
  profile := some ⟨204, 1, []⟩
  ring := [⟨308, 0, some .complete, 1, true, false, false, false, false, some 2500, some 2500, some 1920, some 580,
    .judged .hit, 8, 0, CauseSet.none, .leak, true⟩] })] }

/-- A report set is held; a night of zone 7 has been published and group 1 defined since. -/
def holding : State :=
  { afterAll [.reportHold 1 [], groupSet 1 [7]] State.reset with zones := [(7, { Zone.reset with published := some published })] }

/-- ZONE_READ and GROUP_READ in both of their forms: no report set held, and one held that differs from what stands. -/
theorem witness_ReadsOfAHeldSet :
    State.reset.report = none ∧
      (holding.report.map fun set => set.zones.getD 6 none) = some none ∧ (holding.zone 7).published ≠ none ∧
      Takes holding 0x29 1 (putNat 1 7) ∧ (holding.report.map fun set => set.groups.length) = some 32 ∧
      Takes holding 0x31 1 (putNat 1 1) := by decide +kernel

theorem witness_ReadsReportWhatStands :
    (SerialValid 7 ∧ standby7.meterBySerial 7 = some (0, meter7) ∧ Takes standby7 0x05 1 (putMeterRead ⟨0, 7⟩)) ∧
    (0 < 2048 ∧ standby7.meter? 0 = some meter7 ∧ Takes standby7 0x05 1 (putMeterRead ⟨1, 0⟩)) ∧
    (ZoneValid 255 ∧ Takes State.reset 0x29 1 (putNat 1 255)) ∧
    (ZoneValid 12 ∧ (ringed.zone 12).profile = some ⟨204, 1, []⟩ ∧ Takes ringed 0x2A 1 (putNat 1 12)) ∧
    (ZoneValid 12 ∧ 0 ≤ 15 ∧ 1 ≤ 8 ∧ 8 ≤ 8 ∧ 0 < (ringed.zone 12).ring.length ∧ Takes ringed 0x38 1 (putHistoryRead ⟨12, 0, 8⟩)) ∧
    (Takes State.reset 0x42 1 [] ∧ (1 ≤ 32 ∧ 32 ≤ 32 ∧ Takes State.reset 0x31 1 (putNat 1 32)) ∧ Takes State.reset 0x4A 1 [] ∧
      Takes State.reset 0x51 1 []) := by decide +kernel

/-- The refusals of METER_READ (a selector, a serial, a channel; an unknown one of either), ZONE_PROFILE, HISTORY_READ and
GROUP_READ. -/
theorem witness_ReadRefusals :
    (1 < 2 ∧ ¬ SerialValid 0 ∧ ¬ SerialValid 4294967295 ∧ 2048 ≤ 2048 ∧ Takes standby7 0x05 1 (putMeterRead ⟨2, 7⟩)) ∧
    (SerialValid 8 ∧ standby7.meterBySerial 8 = none ∧ 2047 < 2048 ∧ standby7.meter? 2047 = none) ∧
    (ZoneValid 12 ∧ (State.reset.zone 12).profile = none ∧ Takes State.reset 0x2A 1 (putNat 1 12)) ∧
    (15 < 16 ∧ (9 = 0 ∨ 8 < 9) ∧ (ringed.zone 12).ring.length ≤ 1 ∧ Takes ringed 0x38 1 (putHistoryRead ⟨12, 1, 8⟩)) ∧
    ((33 = 0 ∨ 32 < 33) ∧ Takes State.reset 0x31 1 (putNat 1 33)) := by
  and_intros <;> decide +kernel

theorem witness_RestartIsAnsweredThenTakesEffect :
    (1 < 256 ∧ Takes State.reset 0x52 1 (putNat 1 1)) ∧
    (after (.restart 1 [1]) State.reset).link.restart = some .full ∧
    ((after (.restart 1 [0]) standby7).link.restart = some .runtime ∧ TablesOk (after (.restart 1 [0]) standby7)) := by
  decide +kernel

/-- R107, R149: once a group's only member is in STANDBY, as the pin's assertion leaves it, forming the groups' values again
makes them false. -/
theorem test_groups_lose_a_member_in_standby :
    let gr : Group := { Group.reset with members := [7], leakEnable := true, leakValue := true }
    (recomputeAll { standby7 with groups := [(1, gr)] }).group 1 = { gr with leakValue := false } := by
  decide +kernel

theorem witness_PinResetSequence : ZoneValid 1 ∧ ZoneValid 255 := by decide

theorem tables_standby7 : TablesOk standby7 := by decide +kernel

theorem witness_TablesStayCanonical :
    TablesOk (waiting (.removeMeter 1 (putNat 4 7)) standby7) ∧
      ∃ t, step (waiting (.removeMeter 1 (putNat 4 7)) standby7) = .next t :=
  ⟨tables_standby7, step_next _⟩

/-! The Meter Directory. -/

def validSpec : MeterSpec := ⟨1, 0, 10000, 0, 2000000⟩

theorem witness_AddMeterCreatesRecord :
    SerialValid 4294967294 ∧ validSpec.Valid ∧ standby7.channelOf 4294967294 = none ∧ standby7.meters.length < 2048 ∧
      Takes standby7 0x01 1 (putAddMeter ⟨4294967294, validSpec⟩) := by decide +kernel

theorem directory_standby7 : DirectoryOk standby7 := by
  refine ⟨fun ch m h => ?_, fun serial ch => ?_⟩
  · rw [meter_of_one (k := 0) (m := meter7) rfl] at h
    split at h
    · subst ch
      injection h with h
      subst h
      decide
    · cases h
  · rw [meter_of_one (k := 0) (m := meter7) rfl]
    have c : standby7.channelOf serial = if 7 = serial then some 0 else none := rfl
    rw [c]
    constructor
    · intro h
      split at h
      · injection h with h
        subst h
        exact ⟨meter7, rfl, ‹7 = serial›⟩
      · cases h
    · rintro ⟨m, h, rfl⟩
      split at h
      · injection h with h
        subst h
        subst ch
        rfl
      · cases h

/-- `AttachOk` read off the listed meters and zones: the sides and lists are in form, each entry's meter has the zone on the
entry's side, and each meter is listed on its sides. -/
theorem attachOk_of_tables {s : State} (hm : Table.Rising s.meters) (sides : ∀ e ∈ s.meters, e.2.SidesOk)
    (lists : ∀ e ∈ s.zones, ListOk e.2.attach)
    (entries : ∀ e ∈ s.zones, ∀ a ∈ e.2.attach, ∃ m ∈ s.meters, m.1 = a.channel ∧ m.2.zoneOn a.side = e.1)
    (listed : ∀ e ∈ s.meters, ∀ side ∈ [Side.fromSide, .toSide], e.2.zoneOn side ≠ 0 →
      ⟨e.1, side⟩ ∈ (s.zone (e.2.zoneOn side)).attach) : AttachOk s := by
  have stands : ∀ z, (s.zone z).attach ≠ [] → (z, s.zone z) ∈ s.zones := by
    intro z h
    unfold State.zone Table.read at h ⊢
    cases e : Table.find? s.zones z with
    | none => exact absurd (by rw [e]; rfl) h
    | some zn => exact Table.mem_of_find? e
  refine ⟨fun ch m h => sides _ (Table.mem_of_find? h), fun z => ?_, fun z ch side hz => ⟨fun h => ?_, ?_⟩⟩
  · by_cases h : (s.zone z).attach = []
    · rw [h]
      decide
    · exact lists _ (stands z h)
  · obtain ⟨m, hin, rfl, e⟩ := entries _ (stands z (List.ne_nil_of_mem h)) _ h
    exact ⟨m.2, Table.find?_of_mem hm hin, e⟩
  · rintro ⟨m, h, rfl⟩
    exact listed _ (Table.mem_of_find? h) side (by cases side <;> decide) hz

theorem attach_standby7 : AttachOk standby7 := by
  apply attachOk_of_tables <;> decide +kernel


/-- A directory without room. -/
def fullDirectory : State := { State.reset with meters := (List.range 2048).map fun ch => (ch, { meter7 with serial := ch + 1 }) }

/-- Zone 3 with 48 meters on channels 100 to 147, and `meter7` on channel 0 in zone 7. -/
def fullList : State :=
  { standby7 with
    meters := (0, meter7) :: (List.range 48).map fun i => (100 + i, { meter7 with serial := 100 + i, toZone := 3 })
    serials := (7, 0) :: (List.range 48).map fun i => (100 + i, 100 + i)
    zones := [(3, { Zone.reset with attach := (List.range 48).map fun i => ⟨100 + i, .toSide⟩ }),
      (7, { Zone.reset with attach := [⟨0, .toSide⟩] })] }

theorem attach_fullList : AttachOk fullList := by
  apply attachOk_of_tables <;> decide +kernel

/-- ADD_METER: with the fields before it in range, each of the six fields can fail; and with all in range, each of the two
cross-field checks. -/
theorem witness_AddMeterRefusals :
    (∀ e ∈ ([(1, ⟨4294967295, validSpec⟩), (2, ⟨1, ⟨2, 0, 10, 4, 5⟩⟩), (3, ⟨1, ⟨0, 2, 10, 4, 5⟩⟩), (4, ⟨1, ⟨0, 1, 2, 4, 5⟩⟩),
        (5, ⟨1, ⟨0, 1, 10, 11, 5⟩⟩), (6, ⟨1, ⟨0, 1, 10, 10, 2000001⟩⟩)] : List (Nat × AddMeterReq)),
      e.2.serial < 2 ^ 32 ∧ e.2.spec.Fits ∧ (∀ k, k < e.1 → e.2.FieldInRange k) ∧ ¬ e.2.FieldInRange e.1) ∧
    ((∀ k, (⟨1, ⟨1, 1, 10, 0, 5⟩⟩ : AddMeterReq).FieldInRange k) ∧ Takes State.reset 0x01 1 (putAddMeter ⟨1, ⟨1, 1, 10, 0, 5⟩⟩)) ∧
    ((∀ k, (⟨1, ⟨0, 1, 10, 0, 5⟩⟩ : AddMeterReq).FieldInRange k) ∧ (0 = 1 → 1 = 0)) := by
  refine ⟨?_, ⟨fun k => ?_, by decide +kernel⟩, fun k => ?_, by decide⟩
  · simp only [List.forall_mem_cons]
    and_intros
    all_goals first
      | decide
      | (intro k h; unfold AddMeterReq.FieldInRange; split <;> first | omega | decide)
      | (simp only [AddMeterReq.FieldInRange]; decide)
      | exact fun _ h => nomatch h
  all_goals
    unfold AddMeterReq.FieldInRange
    split <;> decide

theorem witness_DirectoryRefusals :
    ((4294967295 : Nat) < 2 ^ 32 ∧ ¬ SerialValid 4294967295 ∧ Takes standby7 0x04 1 (putAttach ⟨4294967295, 255, 255⟩)) ∧
    (SerialValid 7 ∧ standby7.channelOf 7 ≠ none) ∧
    (SerialValid 9 ∧ fullDirectory.channelOf 9 = none ∧ 2048 ≤ fullDirectory.meters.length) ∧
    ((5 : Nat) = 5 ∧ 5 ≠ 0 ∧ Takes standby7 0x04 1 (putAttach ⟨7, 5, 5⟩)) ∧
    (standby7.meterBySerial 8 = none ∧ standby7.meterBySerial 7 = some (0, meter7)) ∧
    ((forcing .pending none).meterBySerial 7 = some (0, meter7) ∧
      ∃ z ∈ [meter7.fromZone, meter7.toZone, 0, 3], z ≠ 0 ∧ ((forcing .pending none).zone z).monitor ≠ .standby) ∧
    (¬ SerialValid 4294967295 ∧ Takes standby7 0x02 1 (putNat 4 7) ∧
      ∃ z ∈ [meter7.fromZone, meter7.toZone], z ≠ 0 ∧ ((forcing .pending none).zone z).monitor ≠ .standby) := by
  and_intros <;> decide +kernel

theorem witness_AttachFull :
    AttachOk fullList ∧ fullList.meterBySerial 7 = some (0, meter7) ∧ (0 = 3 → 0 = 0) ∧
      (∀ z ∈ [meter7.fromZone, meter7.toZone, 0, 3], z ≠ 0 → (fullList.zone z).monitor = .standby) ∧
      (∃ z ∈ [0, 3], z ≠ 0 ∧ ((fullList.zone z).attach.filter fun e => decide (e.channel ≠ 0)).length = 48) ∧
      Takes fullList 0x04 1 (putAttach ⟨7, 0, 3⟩) :=
  ⟨attach_fullList, by decide +kernel⟩

theorem fieldsOk_replaceRequest (k : Nat) : replaceRequest.FieldOk k := by
  unfold ReplaceReq.FieldOk
  split <;> decide +kernel

/-- REPLACE_METER: one field wrong, the forward index of a PULSE meter (field 9); then an unknown serial, a new serial held by
another record, a base time before the present base, and one beyond the skew. -/
theorem witness_ReplaceRefusals :
    (({ replaceRequest with forward := 65536 } : ReplaceReq).Fits ∧
      (∀ k, k < 9 → ({ replaceRequest with forward := 65536 } : ReplaceReq).FieldOk k) ∧
      ¬ ({ replaceRequest with forward := 65536 } : ReplaceReq).FieldOk 9) ∧
    (∀ k, replaceRequest.FieldOk k) ∧
    (State.reset.meterBySerial replaceRequest.serial = none ∧ Takes State.reset 0x03 1 (putReplace replaceRequest)) ∧
    (beforeReplace.meterBySerial replaceRequest.serial = some (0, oldMeter) ∧
      ∃ n ∈ replaceRequest.newSerial, n ≠ replaceRequest.serial ∧
        ({ beforeReplace with serials := [(70112001, 0), (70112977, 5)] } : State).channelOf n ≠ none) ∧
    (∃ b ∈ oldMeter.base, at100 2 9 59 < b.time) ∧
    (∃ c ∈ beforeReplace.clock, c + beforeReplace.settings.skew < at100 2 43 1) := by
  refine ⟨⟨by decide +kernel, fun k h => ?_, ?_⟩, fieldsOk_replaceRequest, ?_⟩
  · unfold ReplaceReq.FieldOk
    split <;> first | omega | decide +kernel
  · simp only [ReplaceReq.FieldOk]
    decide
  · and_intros <;> decide +kernel

theorem witness_AttachMeterPlacesMeter :
    AttachOk standby7 ∧ SerialValid 7 ∧ (3 = 255 → 3 = 0) ∧ standby7.meterBySerial 7 = some (0, meter7) ∧
      (∀ z ∈ [meter7.fromZone, meter7.toZone, 3, 255], z ≠ 0 → (standby7.zone z).monitor = .standby) ∧
      (∀ z ∈ [3, 255], z ≠ 0 → ((standby7.zone z).attach.filter fun e => decide (e.channel ≠ 0)).length < 48) ∧
      Takes standby7 0x04 1 (putAttach ⟨7, 3, 255⟩) :=
  ⟨attach_standby7, by decide +kernel⟩

theorem witness_RemoveMeterFreesChannel :
    AttachOk standby7 ∧ SerialValid 7 ∧ standby7.meterBySerial 7 = some (0, meter7) ∧
      (∀ z ∈ [meter7.fromZone, meter7.toZone], z ≠ 0 → (standby7.zone z).monitor = .standby) ∧
      Takes standby7 0x02 1 (putNat 4 7) :=
  ⟨attach_standby7, by decide +kernel⟩

theorem witness_ReplaceMeterSetsBase :
    SerialValid replaceRequest.serial ∧ (∀ n ∈ replaceRequest.newSerial, SerialValid n) ∧ replaceRequest.spec.Valid ∧
      replaceRequest.time < 2 ^ 32 ∧ (replaceRequest.spec.kind = 1 → replaceRequest.forward ≤ 65535) ∧
      (replaceRequest.spec.flow = 0 → replaceRequest.reverse = none) ∧
      (replaceRequest.spec.kind = 1 → ∃ q, replaceRequest.sequence = some q ∧ q ≤ 255) ∧
      beforeReplace.meterBySerial replaceRequest.serial = some (0, oldMeter) ∧
      (∀ n ∈ replaceRequest.newSerial, n ≠ replaceRequest.serial → beforeReplace.channelOf n = none) ∧
      (∀ b ∈ oldMeter.base, b.time ≤ replaceRequest.time) ∧
      (∀ c ∈ beforeReplace.clock, replaceRequest.time ≤ c + beforeReplace.settings.skew) ∧
      Takes beforeReplace 0x03 1 (putReplace replaceRequest) ∧
      (replaceRequest.spec.kind ≠ 0 ∧ replaceRequest.spec.flow ≠ 1) := by
  and_intros <;> decide +kernel

theorem witness_DirectoryStaysConsistent :
    TablesOk (waiting (.removeMeter 1 (putNat 4 7)) standby7) ∧ DirectoryOk (waiting (.removeMeter 1 (putNat 4 7)) standby7) ∧
      ∃ t, step (waiting (.removeMeter 1 (putNat 4 7)) standby7) = .next t :=
  ⟨tables_standby7, directory_standby7, step_next _⟩

theorem witness_AttachmentsStayConsistent :
    TablesOk (waiting (.removeMeter 1 (putNat 4 7)) standby7) ∧ AttachOk (waiting (.removeMeter 1 (putNat 4 7)) standby7) ∧
      ∃ t, step (waiting (.removeMeter 1 (putNat 4 7)) standby7) = .next t :=
  ⟨tables_standby7, attach_standby7, step_next _⟩

/-! Readings. -/

def meterPulse : Meter :=
  { meter7 with kind := .pulse, digits := none, unit := 100, qmax := 40000, base := some ⟨at100 1 0 0, none, none, some 255⟩ }
def pulse7 : State := { standby7 with meters := [(0, meterPulse)] }
def record7 (time forward : Nat) : ReadingRecord := ⟨7, time, forward, none, none⟩
def unbased7 : State := { standby7 with meters := [(0, { meter7 with state := .unbased, base := none })] }

theorem witness_ReadingRefusals :
    (State.reset.clock = none ∧ (⟨7, 0, 0, none, none⟩ : ReadingRecord).Fits ∧
      Takes State.reset 0x10 1 (putRecord ⟨7, 0, 0, none, none⟩)) ∧
    (standby7.clock ≠ none ∧ standby7.meterBySerial 8 = none) ∧
    (standby7.meterBySerial 7 = some (0, meter7) ∧ (record7 (at100 3 0 0) 999999).FieldsOk meter7) ∧
    (beforeReplace.meterBySerial 70112001 = some (0, oldMeter) ∧ pulse7.meterBySerial 7 = some (0, meterPulse)) ∧
    ((record7 (at100 3 52 1) 100).FieldsOk meter7 ∧ at100 3 50 0 + standby7.settings.skew < at100 3 52 1) ∧
    ((record7 (at100 1 44 59) 100).FieldsOk meter7 ∧ at100 1 44 59 ≤ at100 3 50 0 + standby7.settings.skew ∧
      meter7.base = some ⟨at100 1 45 0, some 100, none, none⟩ ∧ at100 1 44 59 < at100 1 45 0) ∧
    ((record7 (at100 1 45 0) 100).FieldsOk meter7 ∧ (record7 (at100 1 45 0) 101).FieldsOk meter7) ∧
    ((⟨7, at100 1 0 0, 3, none, some 255⟩ : ReadingRecord).FieldsOk meterPulse ∧
      (⟨7, at100 1 0 0, 3, none, some 0⟩ : ReadingRecord).FieldsOk meterPulse ∧
      (⟨7, at100 1 0 1, 3, none, some 255⟩ : ReadingRecord).FieldsOk meterPulse ∧
      meterPulse.base = some ⟨at100 1 0 0, none, none, some 255⟩) := by
  and_intros <;> decide +kernel

/-- R22 at its edges: field 3 for both kinds; field 4 at the modulus, missing from a TWO_WAY meter and given for a ONE_WAY
meter of either kind; field 5 given for a REGISTER meter, TWO_WAY included, and missing from a PULSE meter. -/
theorem witness_ReadingFieldFaults :
    (¬ (record7 0 1000000).ValueOk meter7 ∧ ¬ (⟨7, 0, 65536, none, some 0⟩ : ReadingRecord).ValueOk meterPulse) ∧
    ((record7 0 9999999).ValueOk oldMeter ∧ ¬ (⟨7, 0, 0, some 10000000, none⟩ : ReadingRecord).ReverseOk oldMeter ∧
      ¬ (record7 0 0).ReverseOk oldMeter ∧ ¬ (⟨7, 0, 0, some 0, none⟩ : ReadingRecord).ReverseOk meter7 ∧
      ¬ (⟨7, 0, 0, some 0, some 1⟩ : ReadingRecord).ReverseOk meterPulse) ∧
    ((⟨7, 0, 0, some 9999999, some 1⟩ : ReadingRecord).ReverseOk oldMeter ∧
      ¬ (⟨7, 0, 0, some 9999999, some 1⟩ : ReadingRecord).SequenceOk oldMeter ∧
      ¬ (⟨7, 0, 0, none, some 1⟩ : ReadingRecord).SequenceOk meter7 ∧ ¬ (record7 0 0).SequenceOk meterPulse) := by
  and_intros <;> decide +kernel

theorem witness_FirstReadingSetsBase :
    (⟨7, at100 3 52 0, 999999, none, none⟩ : ReadingRecord).Fits ∧ unbased7.clock = some (at100 3 50 0) ∧
      unbased7.meterBySerial 7 = some (0, { meter7 with state := .unbased, base := none }) ∧
      (⟨7, at100 3 52 0, 999999, none, none⟩ : ReadingRecord).FieldsOk { meter7 with state := .unbased, base := none } ∧
      at100 3 52 0 ≤ at100 3 50 0 + unbased7.settings.skew ∧
      Takes unbased7 0x10 1 (putRecord ⟨7, at100 3 52 0, 999999, none, none⟩) := by decide +kernel

theorem witness_IntervalClassification :
    (0 < 14401 ∧ 16 * 900 < 14401 - 0 ∧ 14400 - 0 ≤ 16 * 900) ∧
    (meterPulse.kind = .pulse ∧ (255 + 1) % 256 = 0) ∧
    (meter2450.kind = .register ∧ 15000 * 900 * 5 < (395 + 10 ^ 6 - 410) * 10 * 18 ∧
      ¬ 15000 * 900 * 5 < (410 + 10 ^ 6 - 999620) * 10 * 18) ∧
    (oldMeter.flow = .twoWay ∧ oldMeter.base.bind (·.reverse) = some 118) := by decide +kernel

/-- A gap: a regression of `meter2450` inside its night. -/
def gapRecord : ReadingRecord := ⟨70112450, at100 2 45 0, 900000, none, none⟩
/-- An accepted interval: `meter2450` rolls over inside its night. -/
def rollRecord : ReadingRecord := ⟨70112450, at100 2 45 0, 410, none, none⟩
def base2450 : Base := ⟨at100 2 30 0, some 999620, none, none⟩

theorem witness_GapReadingMovesBase :
    gapRecord.Fits ∧ intake2.clock = some (at100 3 45 0) ∧ intake2.meterBySerial 70112450 = some (1, meter2450) ∧
      gapRecord.FieldsOk meter2450 ∧ gapRecord.time ≤ at100 3 45 0 + intake2.settings.skew ∧ meter2450.base = some base2450 ∧
      base2450.time < gapRecord.time ∧ repeatOf meter2450 base2450 gapRecord = none ∧
      classify intake2.settings.gapLimit meter2450 base2450 gapRecord = .gap .regression ∧
      Takes intake2 0x10 1 (putRecord gapRecord) := by
  and_intros <;> decide +kernel

theorem witness_AcceptedReadingIsApportioned :
    (rollRecord.Fits ∧ intake2.clock = some (at100 3 45 0) ∧ intake2.meterBySerial 70112450 = some (1, meter2450) ∧
      meter2450.SidesOk ∧ rollRecord.FieldsOk meter2450 ∧ rollRecord.time ≤ at100 3 45 0 + intake2.settings.skew ∧
      meter2450.base = some base2450 ∧ base2450.time < rollRecord.time ∧ repeatOf meter2450 base2450 rollRecord = none ∧
      classify intake2.settings.gapLimit meter2450 base2450 rollRecord = .accepted 7900 0 ∧
      Takes intake2 0x10 1 (putRecord rollRecord)) ∧
    (∃ c ∈ meter2450.coverOn .toSide, c = Cover.empty) ∧
    ∃ nt ∈ (intake2.zone (meter2450.zoneOn .toSide)).night, nt.state = .pending := by
  refine ⟨?_, ⟨Cover.empty, rfl, rfl⟩, night12, rfl, rfl⟩
  and_intros <;> decide +kernel

theorem witness_PortionsLoseNothing : at100 2 5 0 < at100 2 52 30 ∧ at100 2 0 0 ≤ at100 2 5 0 ∧
    at100 2 52 30 ≤ at100 2 0 0 + 900 * 8 := by decide

/-- A batch of 16 records for `meter7`, from 03:00 on. -/
def batch16 : List ReadingRecord := (List.range 16).map fun i => record7 (at100 3 i 0) (100 + i)

theorem witness_BatchTakesRecordsInOrder :
    (1 ≤ batch16.length ∧ batch16.length ≤ 16 ∧ (∀ r ∈ batch16, r.Fits) ∧ Takes standby7 0x11 1 (putBatch batch16)) ∧
    (Runs standby7 ∧ standby7.link.intake = [] ∧ (record7 (at100 2 59 0) 100).Fits ∧
      (after (.reading 1 (putRecord (record7 (at100 2 59 0) 100))) standby7).link.reply.isSome = true) ∧
    (1 ≤ (batch16.take 15).length ∧ (batch16.take 15).length ≤ 15 ∧ (∀ r' ∈ batch16.take 15, r'.Fits) ∧
      (after (.readingBatch 1 (putBatch (batch16.take 15)) [1, 0])
        (engineEvents 2 (after (.reading 1 (putRecord (record7 (at100 2 59 0) 100))) standby7))).link.reply.isSome = true) ∧
    (exec .closeStart queued7 = .next (after .closeStart queued7) ∧ after .closeStart queued7 ≠ queued7 ∧ Runs queued7) ∧
    ((17 < 256 ∧ (17 = 0 ∨ 16 < 17)) ∧ Takes standby7 0x11 1 (putNat 1 17)) := by
  refine ⟨?_, ?_, ?_, ⟨exec_after _ _, ?_⟩, ?_⟩ <;> decide +kernel

/-! Clock, windows, nights and zone commands. -/

theorem witness_ClockMarkMovesNights :
    (standby7.clock = some (at100 3 50 0) ∧ at100 3 49 59 < at100 3 50 0 ∧ at100 3 50 0 < 2 ^ 32 ∧
      Takes standby7 0x18 1 (putNat 4 (at100 3 49 59))) ∧
    (at100 4 0 0 < 2 ^ 32 ∧ (∀ c ∈ (forcing .pending none).clock, c ≤ at100 4 0 0) ∧
      Takes (forcing .pending none) 0x18 1 (putNat 4 (at100 4 0 0))) := by decide +kernel

theorem witness_ClockMarkMakesMetersStale :
    at100 25 45 1 < 2 ^ 32 ∧ (∀ c ∈ standby7.clock, c ≤ at100 25 45 1) ∧ Takes standby7 0x18 1 (putNat 4 (at100 25 45 1)) ∧
      Table.Rising standby7.meters ∧ DirectoryOk standby7 ∧ standby7.meter? 0 = some meter7 ∧
      (meter7.state = .live ∧ ∃ b ∈ meter7.base, b.time + standby7.settings.staleLimit * 3600 < at100 25 45 1) := by
  refine ⟨?_, ?_, ?_, ?_, directory_standby7, ?_⟩ <;> decide +kernel

theorem witness_ClockAndBaseTimesNeverDecrease :
    step (waiting (mark (at100 4 0 0)) standby7) = .next (after (mark (at100 4 0 0)) standby7) ∧
      (waiting (mark (at100 4 0 0)) standby7).clock = some (at100 3 50 0) ∧
      (waiting (mark (at100 4 0 0)) standby7).meter? 0 = some meter7 ∧
      (after (mark (at100 4 0 0)) standby7).meter? 0 = some meter7 ∧ meter7.base = some ⟨at100 1 45 0, some 100, none, none⟩ :=
  ⟨by
    have h := exec_after (mark (at100 4 0 0)) standby7
    exact h, rfl, by decide +kernel, by decide +kernel, rfl⟩

theorem witness_ChosenWindowIsEarliest : ({ Geometry.default with startSlot := 95 } : Geometry).startSlot ≤ 95 := by decide

theorem witness_ZoneStartCreatesNight :
    ZoneValid 7 ∧ (1 ≤ 1 ∧ 0 ≤ 1) ∧ (∀ b ∈ some 20000000, b ≤ 20000000) ∧ (some 20000000).isSome = true ∧
      (standby7.zone 7).monitor = .standby ∧ (standby7.zone 7).attach ≠ [] ∧ ListOk (standby7.zone 7).attach ∧
      standby7.clock = some (at100 3 50 0) ∧ Takes standby7 0x21 1 (putZoneStart ⟨7, 1, some 20000000⟩) ∧
      Takes standby7 0x23 1 (putNat 1 7) := by decide +kernel

/-- Mode 2, a seed above the limit, a RESUME without a seed; then a zone that is active, one without meters, and no clock. -/
theorem witness_ZoneStartRefusals :
    (1 < 2 ∧ ¬ (∀ b ∈ some 20000001, b ≤ 20000000) ∧ ¬ (1 = 1 → (none : Option Nat) ≠ none)) ∧
    (((forcing .pending none).zone 7).monitor ≠ .standby ∧ Takes (forcing .pending none) 0x23 1 (putNat 1 7) ∧
      Takes (forcing .pending none) 0x21 1 (putZoneStart ⟨7, 0, none⟩)) ∧
    ((standby7.zone 8).monitor = .standby ∧ (standby7.zone 8).attach = [] ∧ Takes standby7 0x21 1 (putZoneStart ⟨8, 0, none⟩)) ∧
    ((({ standby7 with clock := none } : State).zone 7).attach ≠ [] ∧ ({ standby7 with clock := none } : State).clock = none ∧
      Takes standby7 0x21 1 (putZoneStart ⟨0, 2, some 20000001⟩)) := by
  and_intros <;> decide +kernel

theorem witness_ZoneSetStagesGeometry :
    ZoneValid 7 ∧ ([(2, 12), (5, 8), (13, 5)] : List (Nat × Int)).length ≤ 20 ∧
      (([(2, 12), (5, 8), (13, 5)] : List (Nat × Int)).map (·.1)).Nodup ∧
      (∀ e ∈ ([(2, 12), (5, 8), (13, 5)] : List (Nat × Int)), ZoneEntryOk e) ∧
      Takes (forcing .pending none) 0x20 1 (putZoneSet 7 [(2, 12), (5, 8), (13, 5)]) ∧
      ((8 : Int) ≤ 12 - 4 ∧ (5 : Int) ≤ 5) ∧ ((forcing .pending none).zone 7).monitor.armed = true ∧
      ((forcing .pending none).zone 7).setting 12 ≤ 5 := by
  and_intros <;> decide +kernel

/-- A count out of range for a zone and for zone 0; an identifier out of range, repeated, and a value out of range, after a good
entry; a miss limit above n − M and C above W, each behind an entry of neither kind; and a lower W in an armed zone. -/
theorem witness_ZoneSetRefusals :
    ((21 < 256 ∧ (21 = 0 ∨ 20 < 21) ∧ ZoneValid 255 ∧ Takes State.reset 0x20 1 (putNat 1 255 ++ putNat 1 21 ++ [])) ∧
      Takes State.reset 0x20 1 (putNat 1 0 ++ putNat 1 0 ++ [])) ∧
    ((([(1, 95)] : List (Nat × Int)).map (·.1)).Nodup ∧ (∀ g ∈ ([(1, 95)] : List (Nat × Int)), ZoneEntryOk g) ∧
      (∀ g ∈ ([(1, 95), (21, 0)] : List (Nat × Int)), EntryFits g) ∧ 20 < 21 ∧
      1 ∈ ([(1, 95)] : List (Nat × Int)).map (·.1) ∧ ¬ ZoneEntryOk (2, 17)) ∧
    (((∀ e ∈ ([(6, 0), (5, 5)] : List (Nat × Int)), ZoneEntryOk e) ∧
        (Zone.reset.setting 2 - Zone.reset.setting 4 < 5) ∧ (∀ b ∈ ([(6, 0)] : List (Nat × Int)), b.1 ∉ [2, 4, 5]) ∧
        Takes State.reset 0x20 1 (putZoneSet 1 [(6, 0), (5, 5)])) ∧
      ((∀ e ∈ ([(1, 0), (13, 6)] : List (Nat × Int)), ZoneEntryOk e) ∧ Zone.reset.setting 12 < 6 ∧
        Zone.reset.setting 5 ≤ Zone.reset.setting 2 - Zone.reset.setting 4)) ∧
    (ZoneEntryOk (12, 4) ∧ (suspect27.zone 27).setting 13 ≤ 4 ∧ 4 < (suspect27.zone 27).setting 12 ∧
      (suspect27.zone 27).monitor.armed = true ∧ Takes suspect27 0x20 1 (putZoneSet 27 [(12, 4)])) ∧
    ((Instr.unfreeze 1 [0]).frame? = some ⟨0x39, 1, [0]⟩ ∧ Takes State.reset 0x39 1 [0] ∧
      Takes State.reset 0x38 1 (putHistoryRead ⟨0, 0, 1⟩)) := by
  and_intros <;> decide +kernel

theorem witness_ForceAndExcludeActOnTheNight :
    7 < 256 ∧ Takes (forcing .waiting none) 0x25 1 (putNat 1 7) ∧ Takes (forcing .waiting none) 0x24 1 (putNat 1 7) ∧
      Takes State.reset 0x25 1 (putNat 1 0) := by decide +kernel

theorem witness_ZoneStopSettlesZone :
    ((standby7.zone 7).monitor = .standby ∧ Takes standby7 0x22 1 (putNat 1 7)) ∧
    ((closing7.zone 7).monitor ≠ .standby ∧ nightState closing7 7 = some .closing ∧ Takes closing7 0x22 1 (putNat 1 7)) ∧
    ((queued7.zone 7).monitor ≠ .standby ∧ nightState queued7 7 ≠ some .closing ∧ ListOk (queued7.zone 7).attach ∧
      Takes queued7 0x22 1 (putNat 1 7)) := by decide +kernel

theorem witness_AcceptAndAcknowledge :
    (ZoneValid 27 ∧ (suspect27.zone 27).monitor.armed = true ∧ (suspect27.zone 27).judge.lastMnf = some 2450 ∧
      Takes suspect27 0x26 1 (putNat 1 27)) ∧
    ((suspect27.zone 26).monitor.armed = false ∧ Takes suspect27 0x26 1 (putNat 1 26)) ∧
    ((queued7.zone 7).monitor.armed = true ∧ (queued7.zone 7).judge.lastMnf = none) ∧
    Takes suspect27 0x27 1 (putNat 1 27) := by decide +kernel

/-- The queue of `queued7`, with only the zone's entry. -/
def queuedOnly7 : State := { forcing .queued (some .complete) with closeQueue := [.zone 7] }

theorem queue_queuedOnly7 : QueueOk queuedOnly7 := by
  refine ⟨by decide, fun z => ?_, ?_⟩
  · have e : nightState queuedOnly7 z = (if z = 7 then watch7 .queued (some .complete) else Zone.reset).night.map (·.state) := by
      unfold nightState
      rw [zone_of_one (s := queuedOnly7) (k := 7) (zn := watch7 .queued (some .complete)) rfl z]
    rw [e]
    by_cases h : z = 7
    · subst h
      decide
    · simp [queuedOnly7, forcing, h, Zone.reset]
  · simp [queuedOnly7, forcing, State.reset]

theorem witness_ResetZoneClearsZone :
    (ZoneValid 7 ∧ QueueOk queuedOnly7 ∧ Takes queuedOnly7 0x28 1 (putNat 1 7) ∧ ListOk (queuedOnly7.zone 7).attach) ∧
    (nightState queuedOnly7 7 ≠ some .closing ∧ (queuedOnly7.zone 7).night ≠ none ∧
      ⟨0, .toSide⟩ ∈ (queuedOnly7.zone 7).attach) ∧
    (closing7.engine = some (.close item7) ∧ item7.zone = 7 ∧ nightState closing7 7 = some .closing) :=
  ⟨⟨by decide, queue_queuedOnly7, by decide +kernel⟩, by decide +kernel, by decide +kernel⟩

theorem witness_ZoneCommandsRaiseTheirNotices :
    (Instr.zoneStop 1 [7]).frame? = some ⟨0x22, 1, [7]⟩ ∧ (Instr.zoneStop 1 [7]).wellFormed = true ∧
      (0x22 : Byte).toNat ∈ [0x20, 0x21, 0x22, 0x23, 0x26, 0x27, 0x28] ∧ Takes queued7 0x22 1 [7] ∧
      exec (.zoneStop 1 [7]) queued7 = .next (after (.zoneStop 1 [7]) queued7) ∧
      (after (.zoneStop 1 [7]) queued7).link.reply = some ⟨0xA2, 1, .ok, 0, []⟩ := by
  refine ⟨?_, ?_, ?_, ?_, exec_after _ _, ?_⟩ <;> decide +kernel

/-! The Close Engine. -/

theorem witness_StartsTakeTheHead :
    (Runs queued7 ∧ queued7.engine = none ∧ queued7.closeQueue = .zone 7 :: [.test] ∧
      (queued7.zone 7).night = some (night7 .queued (some .complete))) ∧
    (Runs (after (.testStart 1 [2]) State.reset) ∧ (after (.testStart 1 [2]) State.reset).closeQueue = [.test] ∧
      (after (.testStart 1 [2]) State.reset).test.request = .queued 2) := by decide +kernel

def running (n : Nat) : State := { State.reset with engine := some .testRun, test := ⟨.running n, none⟩ }

/-- An audit in service; zone 14 is monitored and its second meter has no base. -/
def auditing : State :=
  { running 5 with
    meters := [(0, { meter7 with toZone := 14 }), (2, { meter7 with serial := 70190002, toZone := 14, state := .unbased, base := none })]
    serials := [(7, 0), (70190002, 2)]
    zones := [(14, { learning12 with attach := [⟨0, .toSide⟩, ⟨2, .toSide⟩] })] }

theorem witness_CompletionsReturnToIdle :
    (Runs (after (.resetZone 1 [7]) closing7) ∧
      (after (.resetZone 1 [7]) closing7).engine = some (.close { item7 with void := true }) ∧
      ({ item7 with void := true } : CloseItem).void = true) ∧
    (Runs (running 4) ∧ (running 4).engine = some .testRun ∧ (running 4).test.request = .running 4) ∧
    (running 5).test.request = .running 5 ∧
    (Runs auditing ∧ auditing.engine = some .testRun ∧ auditing.test.request = .running 5 ∧
      (after .testRunCompletion auditing).test.result = some ⟨5, .fail, none, some ⟨14, 70190002, 2⟩, none⟩) := by
  and_intros <;> decide +kernel

theorem zone_closing7 (z : Nat) : closing7.zone z = if z = 7 then watch7 .closing (some .complete) else Zone.reset :=
  zone_of_one rfl z

theorem nightState_closing7 (z : Nat) : nightState closing7 z = if z = 7 then some .closing else none := by
  unfold nightState
  rw [zone_closing7]
  split <;> rfl

theorem close_closing7 : CloseOk closing7 := by
  have engine : closing7.engine = some (.close item7) := rfl
  refine ⟨⟨by decide +kernel, fun z => ?_, ?_⟩, ⟨?_, fun z => ?_, fun c h _ => ?_⟩, fun z => ?_, fun z h => ?_⟩
  · rw [nightState_closing7]
    split <;> simp [closing7, forcing, State.reset]
  · simp [closing7, forcing, State.reset]
  · simp [closing7, forcing, State.reset]
  · rw [nightState_closing7, engine]
    constructor
    · intro h
      split at h
      · exact ⟨item7, rfl, by subst z; rfl, rfl⟩
      · cases h
    · rintro ⟨c, h, e, -⟩
      injection h with h
      injection h with h
      subst h
      subst e
      rfl
  · rw [engine] at h
    injection h with h
    injection h with h
    subst h
    rfl
  · rw [zone_closing7]
    split
    · refine ⟨by decide, fun nt h => ?_, fun nt h => ?_, fun h => ?_⟩
      · injection h with h
        subst h
        decide
      · injection h with h
        subst h
        decide
      · cases h
    · exact ⟨by decide, fun nt h => (by cases h), fun nt h => (by cases h), fun h => (by cases h)⟩
  · rw [zone_closing7]
    split
    · subst z
      exact absurd (by decide) h
    · rfl

theorem witness_CloseCompletionWritesTheNight :
    Runs closing7 ∧ closing7.engine = some (.close item7) ∧ item7.void = false ∧ CloseOk closing7 :=
  ⟨by decide, rfl, rfl, close_closing7⟩

theorem witness_CloseCompletionRaisesNotices :
    Runs closing7 ∧ closing7.engine = some (.close item7) ∧ item7.void = false ∧ CloseOk closing7 ∧
      ListOk (closing7.zone item7.zone).attach :=
  ⟨by decide, rfl, rfl, close_closing7, by decide +kernel⟩

theorem witness_CloseAndQueueStayConsistent :
    CloseOk (waiting .closeCompletion closing7) ∧ ∃ t, step (waiting .closeCompletion closing7) = .next t :=
  ⟨close_closing7, step_next _⟩

/-! Arithmetic, judgement and settings. -/

theorem witness_MinimumNightFlow :
    (1 ≤ 4 ∧ 4 ≤ (runMinNight.map some).length) ∧
    (2 + 4 ≤ (runMinNight.map some).length ∧
      ((runMinNight.map some).drop 2).take 4 = ([55300, 54100, 53800, 55000] : List Int).map some) ∧
    (figuresOf closing7 7 item7.night item7.captured).profile.slots[7]? = some ⟨none, 0⟩ ∧
    (fullyCovered closing7 7 = false ∧
      fullyCovered { closing7 with meters := [(0, { meter7 with toCover := some ⟨none, 0, 0x00FF, false⟩ })] } 7 = true) := by
  decide +kernel

theorem witness_JudgementArithmetic :
    1 ≤ 1 ∧ 3 ≤ 5 ∧ (MonitorState.watch = .watch ∧ HitFlag.hit ∉ List.replicate 5 HitFlag.nonHit) ∧
      (List.replicate 5 HitFlag.nonHit).length ≤ 5 ∧ MonitorState.leak ≠ .standby ∧ MonitorState.leak ≠ .survey ∧
      (watch7 .closing none).judge.baseline = some 100 ∧ (watch7 .closing none).monitor = .watch := by decide

theorem witness_JudgementAndCausesStayWithinBounds :
    (JudgeOk (waiting .closeCompletion closing7) ∧ ∃ t, step (waiting .closeCompletion closing7) = .next t) ∧
      CausesOk (waiting .closeCompletion closing7) := by
  refine ⟨⟨fun z => ?_, step_next _⟩, fun z => ?_⟩
  · have e : (waiting .closeCompletion closing7).zone z = closing7.zone z := rfl
    rw [e, zone_closing7]
    split <;> decide +kernel
  · have e : (waiting .closeCompletion closing7).zone z = closing7.zone z := rfl
    rw [e, zone_closing7]
    split <;> decide

theorem witness_HitListNeverExceedsW :
    CloseOk (waiting .closeCompletion closing7) ∧ HitsOk (waiting .closeCompletion closing7) ∧
      ∃ t, step (waiting .closeCompletion closing7) = .next t := by
  refine ⟨close_closing7, ⟨fun z => ?_, fun c h _ _ => ?_⟩, step_next _⟩
  · have e : (waiting .closeCompletion closing7).zone z = closing7.zone z := rfl
    rw [e, zone_closing7]
    split <;> decide
  · have h' : some (Item.close item7) = some (.close c) := h
    injection h' with h'
    injection h' with h'
    subst h'
    decide +kernel

theorem witness_SettingsStayInRange :
    TablesOk (waiting .closeCompletion closing7) ∧ SettingsOk (waiting .closeCompletion closing7) ∧
      ∃ t, step (waiting .closeCompletion closing7) = .next t := by
  refine ⟨by decide +kernel, ⟨by decide, fun z => ?_, fun z nt h => ?_, fun c h => ?_⟩, step_next _⟩
  · have e : (waiting .closeCompletion closing7).zone z = closing7.zone z := rfl
    rw [e, zone_closing7]
    split <;> decide
  · have e : (waiting .closeCompletion closing7).zone z = closing7.zone z := rfl
    rw [e, zone_closing7] at h
    split at h
    · injection h with h
      subst h
      decide
    · cases h
  · have h' : some (Item.close item7) = some (.close c) := h
    injection h' with h'
    injection h' with h'
    subst h'
    decide

/-! Groups, publication and self-test requests. -/

/-- A group of zone 7 alone. -/
def grouped7 : State := { closing7 with groups := [(1, { Group.reset with members := [7], leakEnable := true })] }

theorem group_grouped7 (g : Nat) :
    grouped7.group g = if g = 1 then { Group.reset with members := [7], leakEnable := true } else Group.reset := by
  by_cases e : g = 1
  · simp [State.group, Table.read, grouped7, Table.find?, e]
  · simp [State.group, Table.read, grouped7, Table.find?, e, Ne.symm e]

theorem witness_GroupsFollowTheirMembers :
    (GroupsOk (waiting .closeCompletion grouped7) ∧ ∃ t, step (waiting .closeCompletion grouped7) = .next t) ∧
      TablesOk (waiting .closeCompletion grouped7) ∧ MembersOk (waiting .closeCompletion grouped7) := by
  refine ⟨⟨fun g _ => ?_, step_next _⟩, by decide +kernel, fun g => ?_, fun z => ?_⟩
  · have e : (waiting .closeCompletion grouped7).group g = grouped7.group g := rfl
    rw [e, group_grouped7]
    split
    · have z7 : (waiting .closeCompletion grouped7).zone 7 = watch7 .closing (some .complete) := by decide +kernel
      simp [SignalsOk, Combines, Group.reset, z7, watch7, MonitorState.monitored]
    · simp [SignalsOk, Combines, Group.reset]
  · have e : (waiting .closeCompletion grouped7).group g = grouped7.group g := rfl
    rw [e, group_grouped7]
    split <;> decide
  · have e : ∀ g, ((waiting .closeCompletion grouped7).group g).members.contains z = (decide (g = 1) && decide (z = 7)) := by
      intro g
      have e' : (waiting .closeCompletion grouped7).group g = grouped7.group g := rfl
      rw [e', group_grouped7]
      by_cases h : g = 1 <;> simp [h, Group.reset]
    simp only [membershipCount, e]
    by_cases h : z = 7
    · simp only [h]
      decide +kernel
    · simp [h]

def fullRequest : GroupSetReq := ⟨5, 1, 1, 1, 1, 2, [40, 12]⟩

theorem witness_GroupSetDefinesGroup :
    (∀ k, fullRequest.FieldInRange k) ∧ (fullRequest.Fits ∧ Takes inFourGroups 0x30 1 (putGroupSet fullRequest)) ∧
    (∀ e ∈ ([(1, ⟨33, 0, 0, 0, 0, 0, []⟩), (2, ⟨32, 2, 0, 0, 0, 0, []⟩), (3, ⟨32, 1, 2, 0, 0, 0, []⟩),
        (4, ⟨32, 1, 1, 2, 0, 0, []⟩), (5, ⟨32, 1, 1, 1, 2, 0, []⟩), (6, ⟨32, 1, 1, 1, 1, 33, []⟩)] : List (Nat × GroupSetReq)),
      e.2.Fits ∧ (∀ k, k < e.1 → e.2.FieldInRange k) ∧ ¬ e.2.FieldInRange e.1) ∧
    ([40, 40] = [40] ++ 40 :: [] ∧ ([40] : List Nat).Nodup ∧ (∀ y ∈ [40], y ≠ 0) ∧ (40 = 0 ∨ 40 ∈ [40])) ∧
    (∃ z ∈ fullRequest.members,
      4 ≤ groupNumbers.countP fun g => decide (g ≠ 5) && (inFourGroups.group g).members.contains z) ∧
    (fullRequest.members.Nodup ∧ ∀ z ∈ fullRequest.members, z ≠ 0 ∧
      (groupNumbers.countP fun g => decide (g ≠ 5) && (State.reset.group g).members.contains z) < 4) := by
  refine ⟨fun k => ?_, by decide +kernel, ?_, ?_⟩
  · unfold GroupSetReq.FieldInRange
    split <;> decide
  · simp only [List.forall_mem_cons]
    and_intros
    all_goals first
      | decide
      | (intro k h; unfold GroupSetReq.FieldInRange; split <;> first | omega | decide)
      | (simp only [GroupSetReq.FieldInRange]; decide)
      | exact fun _ h => nomatch h
  · and_intros <;> decide +kernel

theorem witness_CaptureReportAndUnfreeze :
    Takes State.reset 0x43 1 [] ∧ Takes State.reset 0x40 1 [] ∧ Takes State.reset 0x41 1 [] ∧ State.reset.report = none ∧
      (after (.reportHold 1 []) State.reset).report ≠ none ∧ ZoneValid 12 ∧ Takes frozen12 0x39 1 (putNat 1 12) := by
  decide +kernel

theorem witness_TestRequestsMoveTheRequest :
    (5 < 256 ∧ Takes State.reset 0x48 1 (putNat 1 5) ∧ State.reset.test.request = .idle ∧ 1 ≤ 5 ∧ 5 ≤ 5) ∧
    (6 = 0 ∨ 5 < 6) ∧ (running 5).test.request ≠ .idle ∧ (running 5).test.request = .running 5 ∧
    Takes State.reset 0x49 1 [] ∧ queued7.test.request = .queued 2 ∧ Takes State.reset 0x4B 1 [] := by decide +kernel

end Sys2Proof.Tests
end

section
/-! SUPPORT. What a step keeps of the directory, the attachments and the clock: every command but those of the directory
itself and the resets is steady. -/

namespace Sys2Proof.Machine

/-! ### Steady changes -/

/-- R1, R6: a meter is UNBASED exactly while it has no base. -/
abbrev Meter.Based (m : Meter) : Prop := m.state = .unbased ↔ m.base = none

/-- Every meter is UNBASED exactly while it has no base. -/
abbrev BasedOk (s : State) : Prop := ∀ ch m, s.meter? ch = some m → m.Based

/-- What a meter keeps while its record stays and is not attached anew: its serial, its zones, which sides have a cover
record, and a base no earlier than before. -/
structure Meter.Follows (m m' : Meter) : Prop where
  serial : m'.serial = m.serial
  zones : ∀ side, m'.zoneOn side = m.zoneOn side
  covers : ∀ side, (m'.coverOn side).isSome = (m.coverOn side).isSome
  base : ∀ b ∈ m.base, ∃ b' ∈ m'.base, b.time ≤ b'.time

theorem Meter.Follows.refl (m : Meter) : m.Follows m :=
  ⟨rfl, fun _ => rfl, fun _ => rfl, fun b hb => ⟨b, hb, Nat.le_refl _⟩⟩

theorem Meter.Follows.trans {a b c : Meter} (h : a.Follows b) (k : b.Follows c) : a.Follows c where
  serial := k.serial.trans h.serial
  zones side := (k.zones side).trans (h.zones side)
  covers side := (k.covers side).trans (h.covers side)
  base x hx := by
    obtain ⟨y, hy, xy⟩ := h.base x hx
    obtain ⟨w, hw, yw⟩ := k.base y hy
    exact ⟨w, hw, xy.trans yw⟩

theorem Meter.follows_updCover (m : Meter) (side : Side) (f : Cover → Cover) : m.Follows (m.updCover side f) where
  serial := by cases side <;> rfl
  zones side' := by cases side <;> cases side' <;> rfl
  covers side' := by rw [updCover_coverOn]; split <;> simp
  base b hb := ⟨b, by cases side <;> exact hb, Nat.le_refl _⟩

/-- A change of the part that leaves the directory's and the attachments' form alone: no record comes or goes, the serial
map and the attachment lists stay, the clock, while set, and every base time do not decrease. -/
structure Steady (s t : State) : Prop where
  tables : TablesOk s → TablesOk t
  serials : t.serials = s.serials
  clock : ∀ c ∈ s.clock, ∃ c' ∈ t.clock, c ≤ c'
  attach : ∀ z, (t.zone z).attach = (s.zone z).attach
  meters : ∀ ch, Option.Rel Meter.Follows (s.meter? ch) (t.meter? ch)
  based : TablesOk s → BasedOk s → BasedOk t

theorem followsRel_refl (o : Option Meter) : Option.Rel Meter.Follows o o := by
  cases o with
  | none => exact .none
  | some m => exact .some (.refl m)

theorem followsRel_trans {a b c : Option Meter} (h : Option.Rel Meter.Follows a b) (k : Option.Rel Meter.Follows b c) :
    Option.Rel Meter.Follows a c := by
  cases h with
  | none => exact k
  | some h => cases k with | some k => exact .some (h.trans k)

theorem State.updMeter_serials (s : State) (ch : Nat) (f : Meter → Meter) : (s.updMeter ch f).serials = s.serials := by
  have h := congrArg State.serials (State.updMeter_frame s ch f)
  exact h

theorem State.updMeter_clock (s : State) (ch : Nat) (f : Meter → Meter) : (s.updMeter ch f).clock = s.clock := by
  have h := congrArg State.clock (State.updMeter_frame s ch f)
  exact h

theorem clock_refl (s : State) : ∀ c ∈ s.clock, ∃ c' ∈ s.clock, c ≤ c' := fun c hc => ⟨c, hc, Nat.le_refl _⟩

namespace Steady

theorem refl (s : State) : Steady s s :=
  ⟨id, rfl, clock_refl s, fun _ => rfl, fun _ => followsRel_refl _, fun _ => id⟩

theorem trans {s t u : State} (h : Steady s t) (k : Steady t u) : Steady s u where
  tables := k.tables ∘ h.tables
  serials := k.serials.trans h.serials
  clock c hc := by
    obtain ⟨d, hd, cd⟩ := h.clock c hc
    obtain ⟨e, he, de⟩ := k.clock d hd
    exact ⟨e, he, cd.trans de⟩
  attach z := (k.attach z).trans (h.attach z)
  meters ch := followsRel_trans (h.meters ch) (k.meters ch)
  based ok := k.based (h.tables ok) ∘ h.based ok

/-- A change outside the four tables and the clock. -/
theorem of_tables_eq {s t : State} (hm : t.meters = s.meters) (hs : t.serials = s.serials) (hz : t.zones = s.zones)
    (hg : t.groups = s.groups) (hc : t.clock = s.clock) : Steady s t := by
  have meter (ch : Nat) : t.meter? ch = s.meter? ch := by simp only [State.meter?, hm]
  have zone (z : Nat) : t.zone z = s.zone z := by simp only [State.zone, hz]
  exact ⟨fun h => by simpa only [TablesOk, hm, hs, hz, hg] using h, hs, hc ▸ clock_refl s, fun z => by rw [zone],
    fun ch => meter ch ▸ followsRel_refl _, fun _ h ch => meter ch ▸ h ch⟩

theorem foldl {α : Type} {f : State → α → State} (l : List α) (h : ∀ s, ∀ a ∈ l, Steady s (f s a)) (s : State) :
    Steady s (l.foldl f s) := by
  induction l generalizing s with
  | nil => exact refl s
  | cons a rest ih =>
    exact (h s a (by simp)).trans (ih (fun s b hb => h s b (by simp [hb])) (f s a))

theorem updZone (s : State) (z : Nat) {f : Zone → Zone} (h : (f (s.zone z)).attach = (s.zone z).attach) :
    Steady s (s.updZone z f) where
  tables ok := ok.updZone z f
  serials := rfl
  clock := clock_refl s
  attach j := by rw [State.zone_updZone]; split <;> simp_all
  meters _ := followsRel_refl _
  based _ := id

theorem setGroup (s : State) (g : Nat) (v : Group) : Steady s (s.setGroup g v) where
  tables ok := ok.setGroup g v
  serials := rfl
  clock := clock_refl s
  attach _ := rfl
  meters _ := followsRel_refl _
  based _ := id

theorem updMeter (s : State) (ch : Nat) {f : Meter → Meter} (hf : ∀ m, s.meter? ch = some m → m.Follows (f m))
    (hb : ∀ m, s.meter? ch = some m → m.Based → (f m).Based) : Steady s (s.updMeter ch f) where
  tables ok := ok.updMeter ch f
  serials := State.updMeter_serials s ch f
  clock := State.updMeter_clock s ch f ▸ clock_refl s
  attach _ := by rw [State.updMeter_zone]
  meters j := by
    rw [State.meter_updMeter]
    split
    · next h =>
      subst h
      cases hm : s.meter? j with
      | none => exact .none
      | some m => exact .some (hf m hm)
    · exact followsRel_refl _
  based _ ok j m' hm' := by
    rw [State.meter_updMeter] at hm'
    split at hm'
    · obtain ⟨m, hm, rfl⟩ := Option.map_eq_some_iff.mp hm'
      exact hb m hm (ok _ m hm)
    · exact ok j m' hm'

theorem updCover (s : State) (ch : Nat) (side : Side) (f : Meter → Cover → Cover) :
    Steady s (s.updMeter ch fun m => m.updCover side (f m)) :=
  updMeter s ch (fun m _ => m.follows_updCover side (f m)) fun m _ => by cases side <;> exact id

theorem setMeter (s : State) {ch : Nat} {m m' : Meter} (hm : s.meter? ch = some m) (hf : m.Follows m')
    (hb : m.Based → m'.Based) : Steady s (s.setMeter ch m') := by
  have eq : s.setMeter ch m' = s.updMeter ch fun _ => m' := by simp [State.updMeter, hm]
  rw [eq]
  exact updMeter s ch (fun x hx => by cases hm.symm.trans hx; exact hf) fun x hx => by cases hm.symm.trans hx; exact hb

/-! ### Notices, the capture record and the close queue -/

theorem raise (s : State) (n : Notice) : Steady s (s.raise n) := of_tables_eq rfl rfl rfl rfl rfl

theorem raiseIf (s : State) (b : Bool) (n : Notice) : Steady s (s.raiseIf b n) := by
  unfold State.raiseIf
  split
  · exact raise s n
  · exact refl s

theorem offerFault (s : State) (k : FaultKind) (serial zone : Option Nat) (time : Nat) :
    Steady s (s.offerFault k serial zone time) := of_tables_eq rfl rfl rfl rfl rfl

theorem enqueue (s : State) (e : QueueEntry) : Steady s (s.enqueue e) := of_tables_eq rfl rfl rfl rfl rfl

theorem dequeue (s : State) (e : QueueEntry) : Steady s (s.dequeue e) := of_tables_eq rfl rfl rfl rfl rfl

end Steady

/-! ### What a zone's changes leave of its list -/

@[simp] theorem Zone.takePortions_attach (zn : Zone) (iv : Interval) (side : Side) :
    (zn.takePortions iv side).attach = zn.attach := by
  unfold Zone.takePortions
  split
  · split <;> rfl
  · rfl

@[simp] theorem Zone.settle_attach (zn : Zone) (v : Verdict) (survey : Bool) : (zn.settle v survey).attach = zn.attach := by
  unfold Zone.settle
  split <;> rfl

@[simp] theorem Zone.record_attach (zn : Zone) (r : NightRecord) (freeze : Bool) :
    (zn.record r freeze).attach = zn.attach := by
  unfold Zone.record
  split
  · rfl
  · dsimp only
    split <;> rfl

@[simp] theorem Zone.takeEntry_attach (zn : Zone) (e : Nat × Int) : (zn.takeEntry e).attach = zn.attach := by
  unfold Zone.takeEntry
  split
  · rfl
  · split <;> rfl

@[simp] theorem Zone.foldl_takeEntry_attach (es : List (Nat × Int)) (zn : Zone) :
    (es.foldl Zone.takeEntry zn).attach = zn.attach := by
  induction es generalizing zn with
  | nil => rfl
  | cons e rest ih => rw [List.foldl_cons, ih, Zone.takeEntry_attach]

@[simp] theorem Zone.takeEntries_attach (zn : Zone) (es : List (Nat × Int)) : (zn.takeEntries es).attach = zn.attach := by
  unfold Zone.takeEntries
  dsimp only
  split <;> split <;> exact Zone.foldl_takeEntry_attach es zn

/-! ### Covers and nights -/

namespace Steady

theorem updAttachedCovers (s : State) (z : Nat) (f : Cover → Cover) : Steady s (s.updAttachedCovers z f) :=
  foldl _ (fun s e _ => updCover s e.channel e.side fun _ => f) s

theorem createNight (z : Nat) (survey : Bool) (s : State) : Steady s (createNight z survey s) :=
  (updZone s z rfl).trans (updAttachedCovers _ z _)

theorem freeNight (z : Nat) (s : State) : Steady s (freeNight z s) := (updZone s z rfl).trans (updAttachedCovers _ z _)

theorem discardNight (z : Nat) (s : State) : Steady s (discardNight z s) := (freeNight z s).trans (dequeue _ _)

theorem queueNight (z : Nat) (cause : CloseCause) (s : State) : Steady s (queueNight z cause s) :=
  (updZone s z rfl).trans (enqueue _ _)

/-! ### Groups -/

theorem recomputeGroups (z : Nat) (s : State) : Steady s (recomputeGroups z s) :=
  foldl _ (fun s g _ => setGroup s g _) s

theorem recomputeAll (s : State) : Steady s (recomputeAll s) := foldl _ (fun s g _ => setGroup s g _) s

theorem raiseGroupChanges (gs : List Nat) (s : State) : Steady s (raiseGroupChanges gs s) :=
  foldl _ (fun s _ _ => raise s _) s

theorem refreshGroups (z : Nat) (s : State) : Steady s (refreshGroups z s) :=
  (recomputeGroups z s).trans (raiseGroupChanges _ _)

/-! ### Intervals and readings (Chapters 2 and 4) -/

theorem takeSide (iv : Interval) (side : Side) (s : State) : Steady s (takeSide iv side s) := by
  unfold Machine.takeSide
  split
  · exact refl s
  · split
    · exact refl s
    · exact (updZone s _ (Zone.takePortions_attach _ iv side)).trans
        (updCover _ _ side fun m => extendCover (s.zone (m.zoneOn side)).night iv.t0 iv.t1)

theorem apportion (iv : Interval) (s : State) : Steady s (apportion iv s) := by
  unfold Machine.apportion
  split
  · exact refl s
  · exact ((takeSide iv .fromSide s).trans (takeSide iv .toSide _)).trans
      (foldl _ (fun s z _ => queueNight z .complete s) _)

end Steady

/-- The base at a channel, where the channel has a meter and the meter a base. -/
def State.baseAt (s : State) (ch : Nat) : Option Base := (s.meter? ch).bind (·.base)

theorem State.baseAt_updCover (s : State) (ch j : Nat) (side : Side) (f : Meter → Cover → Cover) :
    (s.updMeter ch fun m => m.updCover side (f m)).baseAt j = s.baseAt j := by
  unfold State.baseAt
  rw [State.meter_updMeter]
  split
  · next h => subst h; cases s.meter? j <;> cases side <;> rfl
  · rfl

theorem takeSide_baseAt (iv : Interval) (side : Side) (s : State) (j : Nat) :
    (takeSide iv side s).baseAt j = s.baseAt j := by
  unfold takeSide
  split
  · rfl
  · split
    · rfl
    · exact State.baseAt_updCover _ _ _ side fun m => extendCover (s.zone (m.zoneOn side)).night iv.t0 iv.t1

theorem foldl_queueNight_baseAt (zs : List Nat) (cause : CloseCause) (s : State) (j : Nat) :
    (zs.foldl (fun s z => queueNight z cause s) s).baseAt j = s.baseAt j := by
  induction zs generalizing s with
  | nil => rfl
  | cons z rest ih => exact ih (queueNight z cause s)

/-- An interval that is taken moves no base: the reading becomes the base only after it (R24, R32). -/
theorem apportion_baseAt (iv : Interval) (s : State) (j : Nat) : (apportion iv s).baseAt j = s.baseAt j := by
  unfold apportion
  split
  · rfl
  · rw [foldl_queueNight_baseAt, takeSide_baseAt, takeSide_baseAt]

namespace Steady

/-- R32: a reading no earlier than the meter's base becomes the base. -/
theorem moveBase {ch : Nat} {r : ReadingRecord} {s : State} (h : ∀ b ∈ s.baseAt ch, b.time ≤ r.time) :
    Steady s (moveBase ch r s) := by
  refine updMeter s ch (fun m hm => ⟨rfl, fun side => by cases side <;> rfl, fun side => by cases side <;> rfl, ?_⟩)
    fun m _ _ => by simp [Meter.Based]
  exact fun b hb => ⟨_, rfl, h b (by simpa [State.baseAt, hm] using hb)⟩

/-- R33 to R35: a gap moves the base to a reading no earlier than it. -/
theorem takeGap {ch : Nat} {m : Meter} {b : Base} {r : ReadingRecord} (f : MeterFault) {s : State}
    (hm : s.meter? ch = some m) (hb : m.base = some b) (h : b.time ≤ r.time) : Steady s (takeGap ch m b r f s) := by
  have follows : m.Follows (gapMeter s m b r f) := by
    refine ⟨rfl, fun side => by cases side <;> rfl, fun side => ?_, fun x hx => ?_⟩
    · cases side <;> simp [Meter.coverOn, gapMeter]
    · cases hb.symm.trans hx
      exact ⟨_, rfl, h⟩
  exact (setMeter s hm follows fun _ => by simp [Meter.Based, gapMeter]).trans (offerFault _ _ _ _ _)

theorem formInterval {ch : Nat} {m : Meter} {b : Base} {r : ReadingRecord} {s : State}
    (hm : s.meter? ch = some m) (hb : m.base = some b) (h : b.time ≤ r.time) :
    Steady s (formInterval ch m b r s).state := by
  unfold Machine.formInterval
  split
  · exact takeGap _ hm hb h
  · refine (apportion _ s).trans (moveBase fun x hx => ?_)
    rw [apportion_baseAt] at hx
    simp only [State.baseAt, hm, Option.bind_some, hb] at hx
    cases hx
    exact h

theorem againstBase {ch : Nat} {m : Meter} (r : ReadingRecord) {s : State} (hm : s.meter? ch = some m) :
    Steady s (againstBase ch m r s).state := by
  unfold Machine.againstBase
  split
  · next hb => exact moveBase fun x hx => by simp [State.baseAt, hm, hb] at hx
  · next b hb =>
    split
    · exact refl s
    · next ht =>
      split
      · exact refl s
      · exact formInterval hm hb (Nat.le_of_not_lt ht)

theorem takeRecord (r : ReadingRecord) (s : State) : Steady s (takeRecord r s).state := by
  unfold Machine.takeRecord
  split
  · exact refl s
  · split
    · exact refl s
    · next ch m hm =>
      split
      · exact refl s
      · split
        · exact refl s
        · exact againstBase r (State.meterBySerial_some hm).2

end Steady

/-! ### The Close Engine (Chapters 5 to 8, 10 and 11) -/

namespace Steady

theorem stageCauses (c : CloseItem) (f : Figures) (s : State) : Steady s (stageCauses c f s) :=
  (updZone s c.zone (f := fun zn => zn.evaluate c.night c.captured f) rfl).trans
    (foldl _ (fun s _ _ => offerFault s _ _ _ _) _)

theorem stageJudge (c : CloseItem) (v : Verdict) (s : State) : Steady s (stageJudge c v s) :=
  updZone s c.zone (f := fun zn => zn.settle v c.night.survey) (Zone.settle_attach _ _ _)

theorem stagePublish (c : CloseItem) (f : Figures) (v : Verdict) (s : State) : Steady s (stagePublish c f v s) :=
  updZone s c.zone rfl

theorem stageHistory (c : CloseItem) (f : Figures) (v : Verdict) (s : State) : Steady s (stageHistory c f v s) :=
  updZone s c.zone (f := fun zn => zn.record (nightRecord zn c f v s.now) c.captured.freezeOnLeak)
    (Zone.record_attach _ _ _)

theorem stageNotices (c : CloseItem) (f : Figures) (v : Verdict) (before : MonitorState) (newly : CauseSet)
    (changed : List Nat) (s : State) : Steady s (stageNotices c f v before newly changed s) :=
  (((raiseIf s _ _).trans (raiseIf _ _ _)).trans (raiseIf _ _ _)).trans (raiseGroupChanges _ _)

theorem stageFree (c : CloseItem) (s : State) : Steady s (stageFree c s) := (freeNight c.zone s).trans (updZone _ _ rfl)

theorem stageNext (c : CloseItem) (s : State) : Steady s (stageNext c s) := by
  unfold Machine.stageNext
  split
  · exact createNight _ _ s
  · exact refl s

theorem idle (s : State) : Steady s { s with engine := none } := of_tables_eq rfl rfl rfl rfl rfl

theorem completeClose (c : CloseItem) (s : State) : Steady s (completeClose c s) := by
  unfold Machine.completeClose
  split
  · exact idle s
  · exact ((((((((stageCauses c _ s).trans (stageJudge c _ _)).trans (stagePublish c _ _ _)).trans
      (stageHistory c _ _ _)).trans (recomputeGroups _ _)).trans (stageNotices c _ _ _ _ _ _)).trans (stageFree c _)).trans
      (stageNext c _)).trans (idle _)

theorem completeTest (test : Nat) (s : State) : Steady s (completeTest test s) :=
  (raise s (.testDone test (outcomeOf test s))).trans (of_tables_eq rfl rfl rfl rfl rfl)

theorem startClose {z : Nat} (nt : Night) (s : State) : Steady s (startClose z nt s) :=
  (updZone s z (f := fun zn => { zn with night := some { nt with state := .closing } }) rfl).trans (of_tables_eq rfl rfl rfl rfl rfl)

theorem startTest (test : Nat) (s : State) : Steady s (startTest test s) := of_tables_eq rfl rfl rfl rfl rfl

theorem engineEvent (s : State) : Steady s (engineEvent s) := by
  unfold Machine.engineEvent
  split
  · exact completeClose _ s
  · exact completeTest _ s
  · exact startClose _ s
  · exact startTest _ s
  · exact refl s

theorem engineEvents (k : Nat) (s : State) : Steady s (engineEvents k s) := by
  induction k generalizing s with
  | zero => exact refl s
  | succ k ih => exact (engineEvent s).trans (ih _)

theorem takeRecords (rs : List ReadingRecord) (events : List Nat) (s : State) : Steady s (takeRecords rs events s).1 := by
  induction rs, events, s using Machine.takeRecords.induct with
  | case1 events s => exact refl s
  | case2 r events s => exact takeRecord r s
  | case3 r rest events s hne a ih =>
    rw [Machine.takeRecords]
    · exact ((takeRecord r s).trans (engineEvents _ _)).trans ih
    · exact hne

end Steady

/-! ### Clock marks (Chapter 3) -/

namespace Steady

theorem markZone (clock : Nat) (s : State) (z : Nat) : Steady s (markZone clock s z) := by
  have moved := updZone s z (f := fun zn => { zn with night := zn.night.map fun nt => nt.endWindow clock }) rfl
  unfold Machine.markZone
  dsimp only
  split
  · split
    · exact moved.trans (queueNight _ _ _)
    · split
      · exact moved.trans (queueNight _ _ _)
      · exact moved
  · exact moved

theorem nightTransitions (clock : Nat) (s : State) : Steady s (nightTransitions clock s) :=
  foldl _ (fun s z _ => markZone clock s z) s

end Steady

theorem mem_insertByRank (rank : Nat → Nat) (ch j : Nat) (l : List Nat) :
    j ∈ insertByRank rank ch l ↔ j = ch ∨ j ∈ l := by
  induction l with
  | nil => simp [insertByRank]
  | cons c rest ih =>
    simp only [insertByRank]
    split
    · simp
    · simp only [List.mem_cons, ih]
      exact or_left_comm

/-- The order of the mark is free (log 6); which channels it takes is not. -/
theorem mem_lapsedChannels (s : State) (clock ch : Nat) :
    ch ∈ lapsedChannels s clock ↔ ∃ m, (ch, m) ∈ s.meters ∧ m.lapsed s.settings.staleLimit clock = true := by
  have sorted (rank : Nat → Nat) (l : List Nat) : ch ∈ l.foldr (insertByRank rank) [] ↔ ch ∈ l := by
    induction l with
    | nil => simp
    | cons c rest ih => simp [mem_insertByRank, ih]
  simp [lapsedChannels, sorted]

theorem Meter.lapsed_iff (m : Meter) (limit clock : Nat) :
    m.lapsed limit clock = true ↔ m.state = .live ∧ ∃ b ∈ m.base, b.time + limit * 3600 < clock := by
  unfold Meter.lapsed
  cases m.state <;> cases m.base <;> simp

theorem makeStale_meter (s : State) (ch j : Nat) :
    (makeStale s ch).meter? j =
      if j = ch then (s.meter? ch).map fun m => { m with state := .stale } else s.meter? j := by
  unfold makeStale
  cases h : s.meter? ch with
  | none => by_cases e : j = ch <;> simp [e, h]
  | some m => simp [State.meter_setMeter]

theorem makeStale_frame (s : State) (ch : Nat) :
    { makeStale s ch with meters := s.meters, link := s.link } = s := by
  unfold makeStale
  cases s.meter? ch <;> rfl

/-- R16: the records after some meters are made STALE. -/
theorem foldl_makeStale_meter (l : List Nat) (s : State) (j : Nat) :
    (l.foldl makeStale s).meter? j =
      if j ∈ l then (s.meter? j).map fun m => { m with state := .stale } else s.meter? j := by
  induction l generalizing s with
  | nil => simp
  | cons ch rest ih =>
    rw [List.foldl_cons, ih, makeStale_meter]
    by_cases e : j = ch
    · subst e
      cases s.meter? j <;> simp
    · simp [e]

/-- R16: making meters STALE changes their records and the notices only. -/
theorem foldl_makeStale_frame (l : List Nat) (s : State) :
    { l.foldl makeStale s with meters := s.meters, link := s.link } = s := by
  induction l generalizing s with
  | nil => rfl
  | cons ch rest ih =>
    have h₁ := congrArg (fun u : State => { u with meters := s.meters, link := s.link }) (ih (makeStale s ch))
    exact h₁.trans (makeStale_frame s ch)

theorem TablesOk.makeStale {s : State} (h : TablesOk s) (ch : Nat) : TablesOk (makeStale s ch) := by
  unfold Machine.makeStale
  split
  · exact h.setMeter ch _
  · exact h

theorem TablesOk.foldl_makeStale {s : State} (h : TablesOk s) (l : List Nat) : TablesOk (l.foldl Machine.makeStale s) := by
  induction l generalizing s with
  | nil => exact h
  | cons ch rest ih => exact ih (h.makeStale ch)

/-- R16: the records after a stale check: in canonical form, exactly the lapsed ones become STALE. -/
theorem staleCheck_meter {s : State} (r : Table.Rising s.meters) (clock j : Nat) :
    (staleCheck clock s).meter? j =
      (s.meter? j).map fun m => if m.lapsed s.settings.staleLimit clock then { m with state := .stale } else m := by
  have check : (staleCheck clock s).meter? j = ((lapsedChannels s clock).foldl makeStale s).meter? j := rfl
  rw [check, foldl_makeStale_meter]
  cases hm : s.meter? j with
  | none => simp
  | some m =>
    have lapses : j ∈ lapsedChannels s clock ↔ m.lapsed s.settings.staleLimit clock = true := by
      rw [mem_lapsedChannels]
      refine ⟨fun ⟨m', hm', h⟩ => ?_, fun h => ⟨m, Table.mem_of_find? hm, h⟩⟩
      cases hm.symm.trans (Table.find?_of_mem r hm')
      exact h
    by_cases h : m.lapsed s.settings.staleLimit clock = true <;> simp [lapses, h]

namespace Steady

theorem staleCheck (clock : Nat) (s : State) : Steady s (staleCheck clock s) where
  tables ok := (ok.foldl_makeStale (lapsedChannels s clock) :)
  serials := (congrArg State.serials (foldl_makeStale_frame (lapsedChannels s clock) s) :)
  clock := by
    have h : (Machine.staleCheck clock s).clock = s.clock := by
      have h := congrArg State.clock (foldl_makeStale_frame (lapsedChannels s clock) s)
      exact h
    exact h ▸ clock_refl s
  attach z := by
    have h := congrArg (fun u : State => (u.zone z).attach) (foldl_makeStale_frame (lapsedChannels s clock) s)
    exact h
  meters j := by
    have h := foldl_makeStale_meter (lapsedChannels s clock) s j
    change ((Machine.staleCheck clock s).meter? j) = _ at h
    rw [h]
    split
    · cases s.meter? j with
      | none => exact .none
      | some m => exact .some ⟨rfl, fun side => by cases side <;> rfl, fun side => by cases side <;> rfl, (Meter.Follows.refl m).base⟩
    · exact followsRel_refl _
  based ok based j m' hm' := by
    rw [staleCheck_meter ok.1] at hm'
    obtain ⟨m, hm, rfl⟩ := Option.map_eq_some_iff.mp hm'
    split
    · next h =>
      obtain ⟨-, b, hb, -⟩ := (m.lapsed_iff _ _).mp h
      have hb : m.base = some b := hb
      simp [Meter.Based, hb]
    · exact based j m hm

theorem takeMark {time : Nat} {s : State} (h : markIsBack s time = false) : Steady s (takeMark time s) := by
  have set : Steady s { s with clock := some time } :=
    { refl s with
      clock := fun c hc => by
        have hc : s.clock = some c := hc
        exact ⟨time, rfl, by simpa [markIsBack, hc] using h⟩ }
  exact (set.trans (nightTransitions time _)).trans (staleCheck time _)

end Steady

/-! ### The owners' answers -/

@[simp] theorem okWith_state (s : State) (body : List Byte) : (okWith s body).state = s := rfl

namespace Steady

theorem withFields {α : Type} (fields : Option α) {s : State} {owner : α → Answer}
    (h : ∀ r, Steady s (owner r).state) : Steady s (withFields fields s owner).state := by
  cases fields with
  | none => exact refl s
  | some r => exact h r

theorem unfreezeAnswer (z : Nat) (s : State) : Steady s (unfreezeAnswer z s).state := by
  unfold Machine.unfreezeAnswer
  split
  · exact refl s
  · exact updZone s z (f := fun zn => { zn with frozen := false }) rfl

theorem historyReadAnswer (r : HistoryReadReq) (s : State) : Steady s (historyReadAnswer r s).state := by
  unfold Machine.historyReadAnswer
  split
  · exact refl s
  · split <;> exact refl s

theorem meterReadAnswer (r : MeterReadReq) (s : State) : Steady s (meterReadAnswer r s).state := by
  unfold Machine.meterReadAnswer
  split
  · exact refl s
  · split <;> exact refl s

theorem writeGroup (r : GroupSetReq) (s : State) : Steady s (writeGroup r s) :=
  (setGroup s r.group _).trans (raiseIf _ _ _)

theorem groupSetAnswer (r : GroupSetReq) (s : State) : Steady s (groupSetAnswer r s).state := by
  unfold Machine.groupSetAnswer
  split
  · exact refl s
  · split
    · exact refl s
    · split
      · exact refl s
      · rw [okWith_state]; exact writeGroup r s

theorem groupReadAnswer (g : Nat) (s : State) : Steady s (groupReadAnswer g s).state := by
  unfold Machine.groupReadAnswer
  split <;> exact refl s

theorem clockMarkAnswer (time : Nat) (s : State) : Steady s (clockMarkAnswer time s).state := by
  unfold Machine.clockMarkAnswer
  split
  · exact refl s
  · next h => exact takeMark (Bool.not_eq_true _ ▸ h)

theorem forceCloseAnswer (z : Nat) (s : State) : Steady s (forceCloseAnswer z s).state := by
  unfold Machine.forceCloseAnswer
  split
  · exact refl s
  · split
    · exact refl s
    · split
      case h_2 => exact queueNight z .forced s
      all_goals exact refl s

theorem excludeNightAnswer (z : Nat) (s : State) : Steady s (excludeNightAnswer z s).state := by
  unfold Machine.excludeNightAnswer
  split
  · exact refl s
  · split
    · exact refl s
    · next nt _ =>
      split
      · exact updZone s z (f := fun zn => { zn with night := some { nt with excluded := true } }) rfl
      · exact refl s

theorem testStartAnswer (test : Nat) (s : State) : Steady s (testStartAnswer test s).state := by
  unfold Machine.testStartAnswer
  split
  · exact refl s
  · split
    · exact refl s
    · exact of_tables_eq rfl rfl rfl rfl rfl

theorem testCancelAnswer (s : State) : Steady s (testCancelAnswer s).state := by
  unfold Machine.testCancelAnswer
  split
  · exact refl s
  · exact refl s
  · exact of_tables_eq rfl rfl rfl rfl rfl

theorem batchAnswer (b : BatchReq) (events : List Nat) (s : State) : Steady s (batchAnswer b events s).state := by
  unfold Machine.batchAnswer
  split
  · exact takeRecords b.records events s
  · exact refl s

theorem refreshOnSummary (z : Nat) (before s : State) : Steady s (refreshOnSummary z before s) := by
  unfold Machine.refreshOnSummary
  split
  · exact refl s
  · exact refreshGroups z s

theorem writeZone (r : ZoneSetReq) (s : State) : Steady s (writeZone r s) :=
  (updZone s r.zone (Zone.takeEntries_attach _ r.entries)).trans (refreshOnSummary r.zone s _)

theorem zoneSetAnswer (r : ZoneSetReq) (s : State) : Steady s (zoneSetAnswer r s).state := by
  unfold Machine.zoneSetAnswer
  split
  · exact refl s
  · exact refl s
  · rw [okWith_state]; exact writeZone r s

theorem startZone (r : ZoneStartReq) (s : State) : Steady s (startZone r s) :=
  ((updZone s r.zone rfl).trans (createNight r.zone false _)).trans (refreshGroups r.zone _)

theorem zoneStartAnswer (r : ZoneStartReq) (s : State) : Steady s (zoneStartAnswer r s).state := by
  unfold Machine.zoneStartAnswer
  split
  · exact refl s
  · split
    · exact refl s
    · rw [okWith_state]; exact startZone r s

theorem surveyZone (z : Nat) (s : State) : Steady s (surveyZone z s) :=
  ((updZone s z rfl).trans (createNight z true _)).trans (refreshGroups z _)

theorem zoneSurveyAnswer (z : Nat) (s : State) : Steady s (zoneSurveyAnswer z s).state := by
  unfold Machine.zoneSurveyAnswer
  split
  · exact refl s
  · split
    · exact refl s
    · rw [okWith_state]; exact surveyZone z s

theorem stopZone (z : Nat) (s : State) : Steady s (stopZone z s) :=
  (((discardNight z s).trans (updZone _ z rfl)).trans (raiseIf _ _ _)).trans (refreshGroups z _)

theorem zoneStopAnswer (z : Nat) (s : State) : Steady s (zoneStopAnswer z s).state := by
  unfold Machine.zoneStopAnswer
  split
  · exact refl s
  · split
    · exact refl s
    · split
      · exact updZone s z (f := fun zn => { zn with stopPending := true }) rfl
      · rw [okWith_state]; exact stopZone z s

theorem acceptLevel (z : Nat) (f : Int) (s : State) : Steady s (acceptLevel z f s) := by
  have rebased : Steady s (raiseChange z (s.zone z).monitor (s.updZone z fun zn => zn.rebase f)) :=
    (updZone s z rfl).trans (raiseIf _ _ _)
  unfold Machine.acceptLevel
  dsimp only
  split
  · exact rebased
  · exact rebased.trans (refreshGroups z _)

theorem acceptLevelAnswer (z : Nat) (s : State) : Steady s (acceptLevelAnswer z s).state := by
  unfold Machine.acceptLevelAnswer
  split
  · exact refl s
  · split
    · exact refl s
    · split
      · exact refl s
      · rw [okWith_state]; exact acceptLevel z _ s

theorem ackZone (z : Nat) (s : State) : Steady s (ackZone z s) := (updZone s z rfl).trans (refreshOnSummary z s _)

theorem ackZoneAnswer (z : Nat) (s : State) : Steady s (ackZoneAnswer z s).state := by
  unfold Machine.ackZoneAnswer
  split
  · exact refl s
  · rw [okWith_state]; exact ackZone z s

theorem voidClose (z : Nat) (s : State) : Steady s (voidClose z s) := by
  unfold Machine.voidClose
  split
  · split
    · exact of_tables_eq rfl rfl rfl rfl rfl
    · exact refl s
  · exact refl s

theorem dropNight (z : Nat) (s : State) : Steady s (dropNight z s) := by
  unfold Machine.dropNight
  split
  · exact refl s
  · split
    · exact (freeNight z s).trans (voidClose z _)
    · exact discardNight z s

theorem resetZone (z : Nat) (s : State) : Steady s (resetZone z s) :=
  (((dropNight z s).trans (updZone _ z rfl)).trans (raiseIf _ _ _)).trans (refreshGroups z _)

theorem resetZoneAnswer (z : Nat) (s : State) : Steady s (resetZoneAnswer z s).state := by
  unfold Machine.resetZoneAnswer
  split
  · exact refl s
  · rw [okWith_state]; exact resetZone z s

theorem partSetAnswer (r : PartSetReq) (s : State) : Steady s (partSetAnswer r s).state := by
  unfold Machine.partSetAnswer
  split
  · exact refl s
  · split
    · exact refl s
    · exact of_tables_eq rfl rfl rfl rfl rfl

theorem restartAnswer (level : Nat) (s : State) : Steady s (restartAnswer level s).state := by
  unfold Machine.restartAnswer
  split
  · exact refl s
  · exact of_tables_eq rfl rfl rfl rfl rfl

theorem zoneReadAnswer (z : Nat) (s : State) : Steady s (zoneReadAnswer z s).state := by
  unfold Machine.zoneReadAnswer
  split <;> exact refl s

theorem zoneProfileAnswer (z : Nat) (s : State) : Steady s (zoneProfileAnswer z s).state := by
  unfold Machine.zoneProfileAnswer
  split
  · exact refl s
  · split <;> exact refl s

theorem reportHoldAnswer (s : State) : Steady s (reportHoldAnswer s).state := by
  unfold Machine.reportHoldAnswer
  split
  · exact refl s
  · exact of_tables_eq rfl rfl rfl rfl rfl

theorem reportReleaseAnswer (s : State) : Steady s (reportReleaseAnswer s).state := by
  unfold Machine.reportReleaseAnswer
  split
  · exact refl s
  · exact of_tables_eq rfl rfl rfl rfl rfl

theorem stopped (s : State) (l : Link) :
    Steady s { s with engine := none, closeQueue := [], test := ⟨.idle, none⟩, link := l } :=
  of_tables_eq rfl rfl rfl rfl rfl

/-- R184: the reset pin's assertion leaves directory, attachments and clock (log 14). -/
theorem abandonAll (s : State) : Steady s (abandonAll s) := by
  have nights : Steady s (zoneNumbers.foldl
      (fun s z => (Machine.freeNight z s).updZone z fun zn => { zn.enterStandby with stopPending := false }) s) :=
    foldl _ (fun s z _ => (freeNight z s).trans (updZone _ z rfl)) s
  unfold Machine.abandonAll
  generalize zoneNumbers.foldl _ s = u at nights ⊢
  exact (nights.trans (recomputeAll u)).trans (stopped _ _)

end Steady

end Sys2Proof.Machine
end

section
/-! SUPPORT. What one command does to the directory, the attachments and the clock, said once; and the three invariants that
every step keeps. -/

namespace Sys2Proof.Machine

/-! ### Field checks -/

theorem serialOk_iff (n : Nat) : serialOk n = true ↔ SerialValid n := by simp [serialOk, SerialValid]

theorem firstFault_none_iff (l : List (Nat × Bool)) : firstFault l = none ↔ ∀ e ∈ l, e.2 = true := by
  induction l with
  | nil => simp [firstFault]
  | cons e rest ih =>
    obtain ⟨field, ok⟩ := e
    cases ok <;> simp [firstFault, ih]

/-! ### The lowest free channel (R1) -/

theorem State.mem_keys_of_meter {s : State} {ch : Nat} (h : s.meter? ch ≠ none) : ch ∈ s.meters.map (·.1) := by
  obtain ⟨m, hm⟩ := Option.ne_none_iff_exists'.mp h
  exact List.mem_map.mpr ⟨_, Table.mem_of_find? hm, rfl⟩

/-- R1: a directory of fewer than 2,048 records has a free channel, and the lowest is below 2,048. -/
theorem lowestFree_spec {s : State} (h : s.meters.length < 2048) :
    lowestFree s < 2048 ∧ s.meter? (lowestFree s) = none ∧ ∀ c < lowestFree s, s.meter? c ≠ none := by
  unfold lowestFree
  cases hf : (List.range Config.channelCount).find? fun ch => (s.meter? ch).isNone with
  | none =>
    have taken : List.range 2048 ⊆ s.meters.map (·.1) := fun ch hch =>
      State.mem_keys_of_meter (by simpa using List.find?_eq_none.mp hf ch hch)
    have := (List.subperm_of_subset List.nodup_range taken).length_le
    simp at this
    omega
  | some ch =>
    obtain ⟨free, hlt, below⟩ := List.find?_range_eq_some.mp hf
    exact ⟨by simpa using hlt, by simpa using free, fun c hc => by simpa [Option.isSome_iff_ne_none] using below c hc⟩

/-! ### Detaching and attaching (R3, R10, R11) -/

@[simp] theorem State.updInside_meter (s : State) (z : Nat) (f : Zone → Zone) (ch : Nat) :
    (s.updInside z f).meter? ch = s.meter? ch := by
  unfold State.updInside
  split <;> rfl

/-- What `updInside` leaves alone: everything but the zones. -/
theorem State.updInside_frame (s : State) (z : Nat) (f : Zone → Zone) : { s.updInside z f with zones := s.zones } = s := by
  unfold State.updInside
  split <;> rfl

theorem State.updInside_zone (s : State) (z j : Nat) (f : Zone → Zone) :
    (s.updInside z f).zone j = if j = z ∧ z ≠ 0 then f (s.zone j) else s.zone j := by
  unfold State.updInside
  split
  · next h => simp [h]
  · next h =>
    rw [State.zone_updZone]
    by_cases e : j = z <;> simp [e, h]

theorem detachMeter_frame (ch : Nat) (m : Meter) (s : State) : { detachMeter ch m s with zones := s.zones } = s :=
  (congrArg (fun u : State => { u with zones := s.zones }) (State.updInside_frame _ m.toZone _)).trans
    (State.updInside_frame s m.fromZone _)

theorem relistMeter_frame (ch : Nat) (m : Meter) (r : AttachReq) (s : State) :
    { relistMeter ch m r s with zones := s.zones } = s :=
  ((congrArg (fun u : State => { u with zones := s.zones }) (State.updInside_frame _ r.toZone _)).trans
    (congrArg (fun u : State => { u with zones := s.zones }) (State.updInside_frame _ r.fromZone _))).trans
    (detachMeter_frame ch m s)

theorem TablesOk.updInside {s : State} (h : TablesOk s) (z : Nat) (f : Zone → Zone) : TablesOk (s.updInside z f) := by
  unfold State.updInside
  split
  · exact h
  · exact h.updZone z f

theorem TablesOk.detachMeter {s : State} (h : TablesOk s) (ch : Nat) (m : Meter) : TablesOk (detachMeter ch m s) :=
  (h.updInside _ _).updInside _ _

theorem TablesOk.relistMeter {s : State} (h : TablesOk s) (ch : Nat) (m : Meter) (r : AttachReq) :
    TablesOk (relistMeter ch m r s) :=
  ((h.detachMeter ch m).updInside _ _).updInside _ _

/-! ### Attachment lists -/

theorem mem_insertAttachment {e x : Attachment} {l : List Attachment} :
    x ∈ insertAttachment e l ↔ x = e ∨ x ∈ l := by
  induction l with
  | nil => simp [insertAttachment]
  | cons a rest ih =>
    simp only [insertAttachment]
    split
    · simp
    · simp only [List.mem_cons, ih]
      exact or_left_comm

theorem length_insertAttachment (e : Attachment) (l : List Attachment) :
    (insertAttachment e l).length = l.length + 1 := by
  induction l with
  | nil => rfl
  | cons a rest ih =>
    simp only [insertAttachment]
    split <;> simp [ih]

theorem insertAttachment_sorted {e : Attachment} {l : List Attachment} (sorted : l.Pairwise fun a b => a.channel < b.channel)
    (fresh : ∀ a ∈ l, a.channel ≠ e.channel) : (insertAttachment e l).Pairwise fun a b => a.channel < b.channel := by
  induction l with
  | nil => simp [insertAttachment]
  | cons a rest ih =>
    obtain ⟨head, tail⟩ := List.pairwise_cons.mp sorted
    simp only [insertAttachment]
    split
    · next h =>
      refine List.pairwise_cons.mpr ⟨fun x hx => ?_, sorted⟩
      rcases List.mem_cons.mp hx with rfl | hx
      · exact h
      · exact h.trans (head x hx)
    · next h =>
      refine List.pairwise_cons.mpr ⟨fun x hx => ?_, ih tail fun x hx => fresh x (by simp [hx])⟩
      rcases mem_insertAttachment.mp hx with rfl | hx
      · have := fresh a (by simp)
        omega
      · exact head x hx

/-- A list with an entry put in its place, where a condition holds. -/
def placeIf (p : Prop) [Decidable p] (e : Attachment) (l : List Attachment) : List Attachment :=
  if p then insertAttachment e l else l

theorem mem_placeIf {p : Prop} [Decidable p] {e x : Attachment} {l : List Attachment} :
    x ∈ placeIf p e l ↔ (p ∧ x = e) ∨ x ∈ l := by
  unfold placeIf
  split <;> simp_all [mem_insertAttachment]

/-- R10: a zone's list after the entries of channel `ch` have left it and the entries of request `r` have come. -/
def relisted (ch : Nat) (r : AttachReq) (z : Nat) (l : List Attachment) : List Attachment :=
  placeIf (z = r.toZone) ⟨ch, .toSide⟩ (placeIf (z = r.fromZone) ⟨ch, .fromSide⟩
    (l.filter fun a => decide (a.channel ≠ ch)))

/-- R9: no zone but OUTSIDE stands on both sides of a request. -/
abbrev AttachReq.Apart (r : AttachReq) : Prop := r.fromZone = r.toZone → r.fromZone = 0

theorem mem_relisted {ch : Nat} {r : AttachReq} {z : Nat} {l : List Attachment} {e : Attachment} :
    e ∈ relisted ch r z l ↔
      (e ∈ l ∧ e.channel ≠ ch) ∨ (z = r.fromZone ∧ e = ⟨ch, .fromSide⟩) ∨ (z = r.toZone ∧ e = ⟨ch, .toSide⟩) := by
  simp only [relisted, mem_placeIf, List.mem_filter, decide_eq_true_eq]
  tauto

theorem relisted_sorted {ch : Nat} {r : AttachReq} {z : Nat} {l : List Attachment} (apart : r.Apart) (hz : z ≠ 0)
    (sorted : l.Pairwise fun a b => a.channel < b.channel) :
    (relisted ch r z l).Pairwise fun a b => a.channel < b.channel := by
  have kept : (l.filter fun a => decide (a.channel ≠ ch)).Pairwise fun a b => a.channel < b.channel := sorted.filter _
  have fresh : ∀ a ∈ l.filter fun a => decide (a.channel ≠ ch), a.channel ≠ ch := fun a ha => by
    simpa using List.of_mem_filter ha
  unfold relisted placeIf
  by_cases hf : z = r.fromZone
  · have ht : z ≠ r.toZone := fun ht => hz (hf.trans (apart (hf.symm.trans ht)))
    simpa only [hf.symm, if_true, if_neg ht] using insertAttachment_sorted (e := ⟨ch, .fromSide⟩) kept fresh
  · by_cases ht : z = r.toZone
    · simpa only [if_neg hf, ht.symm, if_true] using insertAttachment_sorted (e := ⟨ch, .toSide⟩) kept fresh
    · simpa only [if_neg hf, if_neg ht] using kept

theorem length_relisted {ch : Nat} {r : AttachReq} {z : Nat} {l : List Attachment} (apart : r.Apart) (hz : z ≠ 0) :
    (relisted ch r z l).length =
      (l.filter fun a => decide (a.channel ≠ ch)).length + if z = r.fromZone ∨ z = r.toZone then 1 else 0 := by
  unfold relisted placeIf
  by_cases hf : z = r.fromZone
  · have ht : z ≠ r.toZone := fun ht => hz (hf.trans (apart (hf.symm.trans ht)))
    simp [hf.symm, ht, length_insertAttachment]
  · by_cases ht : z = r.toZone
    · simp [hf, ht.symm, length_insertAttachment]
    · simp [hf, ht]

/-- R3, R11: with the lists in step, the entries of a meter leave every list when they leave those of its zones. -/
theorem detachMeter_zone {ch : Nat} {m : Meter} {s : State} (ok : AttachOk s) (hm : s.meter? ch = some m) {z : Nat}
    (hz : z ≠ 0) : (detachMeter ch m s).zone z = (s.zone z).detach ch := by
  obtain ⟨-, -, entries⟩ := ok
  have twice : ((s.zone z).detach ch).detach ch = (s.zone z).detach ch := by simp [Zone.detach]
  have absent (hf : z ≠ m.fromZone) (ht : z ≠ m.toZone) : (s.zone z).detach ch = s.zone z := by
    have none : ∀ a ∈ (s.zone z).attach, a.channel ≠ ch := by
      rintro ⟨ch', side⟩ ha rfl
      obtain ⟨m', hm', on⟩ := (entries z ch' side hz).mp ha
      cases hm.symm.trans hm'
      cases side
      · exact hf on.symm
      · exact ht on.symm
    have all : (s.zone z).attach.filter (fun a => decide (a.channel ≠ ch)) = (s.zone z).attach :=
      List.filter_eq_self.mpr fun a ha => decide_eq_true (none a ha)
    rw [Zone.detach, all]
  unfold detachMeter
  rw [State.updInside_zone, State.updInside_zone]
  by_cases hf : z = m.fromZone
  · by_cases ht : z = m.toZone
    · rw [if_pos ⟨ht, ht ▸ hz⟩, if_pos ⟨hf, hf ▸ hz⟩, twice]
    · rw [if_neg (fun h => ht h.1), if_pos ⟨hf, hf ▸ hz⟩]
  · by_cases ht : z = m.toZone
    · rw [if_pos ⟨ht, ht ▸ hz⟩, if_neg (fun h => hf h.1)]
    · rw [if_neg (fun h => ht h.1), if_neg (fun h => hf h.1), absent hf ht]

/-- R10: what relisting a meter does to a zone. -/
theorem relistMeter_zone {ch : Nat} {m : Meter} {s : State} (r : AttachReq) (ok : AttachOk s) (hm : s.meter? ch = some m)
    {z : Nat} (hz : z ≠ 0) :
    (relistMeter ch m r s).zone z = { s.zone z with attach := relisted ch r z (s.zone z).attach } := by
  unfold relistMeter relisted placeIf
  rw [State.updInside_zone, State.updInside_zone, detachMeter_zone ok hm hz]
  by_cases hf : z = r.fromZone
  · by_cases ht : z = r.toZone
    · rw [if_pos ⟨ht, ht ▸ hz⟩, if_pos ⟨hf, hf ▸ hz⟩]
      simp only [if_pos ht, if_pos hf]
      rfl
    · rw [if_neg (fun h => ht h.1), if_pos ⟨hf, hf ▸ hz⟩]
      simp only [if_neg ht, if_pos hf]
      rfl
  · by_cases ht : z = r.toZone
    · rw [if_pos ⟨ht, ht ▸ hz⟩, if_neg (fun h => hf h.1)]
      simp only [if_pos ht, if_neg hf]
      rfl
    · rw [if_neg (fun h => ht h.1), if_neg (fun h => hf h.1)]
      simp only [if_neg ht, if_neg hf]
      rfl

/-- OUTSIDE keeps no list. -/
theorem detachMeter_outside (ch : Nat) (m : Meter) (s : State) : (detachMeter ch m s).zone 0 = s.zone 0 := by
  unfold detachMeter
  rw [State.updInside_zone, State.updInside_zone, if_neg (fun h => h.2 h.1.symm), if_neg (fun h => h.2 h.1.symm)]

theorem relistMeter_outside (ch : Nat) (m : Meter) (r : AttachReq) (s : State) :
    (relistMeter ch m r s).zone 0 = s.zone 0 := by
  unfold relistMeter
  rw [State.updInside_zone, State.updInside_zone, if_neg (fun h => h.2 h.1.symm), if_neg (fun h => h.2 h.1.symm),
    detachMeter_outside]

theorem attachFull_iff (ch : Nat) (m : Meter) (r : AttachReq) (s : State) :
    attachFull ch m r s = true ↔
      ∃ z ∈ [r.fromZone, r.toZone], z ≠ 0 ∧ 48 < ((relistMeter ch m r s).zone z).attach.length := by
  simp [attachFull]

theorem attachFault_none {r : AttachReq} (h : attachFault r = none) : SerialValid r.serial ∧ r.Apart := by
  have checks := (firstFault_none_iff _).mp h
  simp only [List.mem_cons, List.not_mem_nil, or_false, forall_eq_or_imp, forall_eq, serialOk_iff, Bool.or_eq_true,
    decide_eq_true_eq] at checks
  obtain ⟨serial, -, -, apart⟩ := checks
  exact ⟨serial, fun h => apart.resolve_left fun k => k h⟩

/-! ### What one command does -/

/-- What a command does to the directory, the attachments and the clock, the link aside: nothing that `Steady` rules out, or
the effect of one of the four commands of the directory (R8, R10, R11, R13), or one of the two resets (R17). -/
inductive DirectoryEffect (s : State) : State → Prop
  | steady {t : State} (h : Steady s t) : DirectoryEffect s t
  | adds (r : AddMeterReq) (l : Link) (serial : SerialValid r.serial) (unmapped : s.channelOf r.serial = none)
      (room : s.meters.length < 2048) :
      DirectoryEffect s { (s.setMeter (lowestFree s) (newMeter r)).mapSerial r.serial (lowestFree s) with link := l }
  | removes (serial ch : Nat) (m : Meter) (l : Link) (found : s.meterBySerial serial = some (ch, m)) :
      DirectoryEffect s { (detachMeter ch m s).dropMeter ch serial with link := l }
  | replaces (r : ReplaceReq) (ch : Nat) (m : Meter) (l : Link) (fields : replaceFault r = none)
      (found : s.meterBySerial r.serial = some (ch, m)) (untaken : serialTaken s r = false)
      (notBefore : beforeBase m r.time = false) :
      DirectoryEffect s
        { ((s.unmapSerial r.serial).mapSerial (r.newSerial.getD r.serial) ch).setMeter ch (replacedMeter m r) with link := l }
  | attaches (r : AttachReq) (ch : Nat) (m : Meter) (l : Link) (fields : attachFault r = none)
      (found : s.meterBySerial r.serial = some (ch, m)) (fits : attachFull ch m r s = false) :
      DirectoryEffect s { (relistMeter ch m r s).setMeter ch (m.attachTo r.fromZone r.toZone) with link := l }

namespace DirectoryEffect

theorem replied {s t : State} (h : DirectoryEffect s t) (kind tag : Byte) (code : ReplyCode) (body : List Byte) :
    DirectoryEffect s (t.replied kind tag code body) := by
  cases h with
  | steady h => exact .steady (h.trans (.of_tables_eq rfl rfl rfl rfl rfl))
  | adds r l serial unmapped room => exact .adds r _ serial unmapped room
  | removes serial ch m l found => exact .removes serial ch m _ found
  | replaces r ch m l fields found untaken notBefore => exact .replaces r ch m _ fields found untaken notBefore
  | attaches r ch m l fields found fits => exact .attaches r ch m _ fields found fits

theorem withFields {α : Type} (fields : Option α) {s : State} {owner : α → Answer}
    (h : ∀ r, DirectoryEffect s (owner r).state) : DirectoryEffect s (withFields fields s owner).state := by
  cases fields with
  | none => exact .steady (.refl s)
  | some r => exact h r

/-- The effect of a request is its owner's. -/
theorem serve {kind tag : Byte} {payload : List Byte} {owner : List Byte → State → Answer} {s t : State}
    (h : ∀ p u, DirectoryEffect u (owner p u).state) (e : serve kind tag payload owner s = .next t) :
    DirectoryEffect s.popIntake t := by
  rcases serve_cases e with ⟨-, rfl⟩ | ⟨-, rfl⟩
  · exact (h _ _).replied _ _ _ _
  · exact .steady (.of_tables_eq rfl rfl rfl rfl rfl)

theorem addMeterAnswer (r : AddMeterReq) (s : State) : DirectoryEffect s (addMeterAnswer r s).state := by
  unfold Machine.addMeterAnswer
  split
  · exact .steady (.refl s)
  · next fields =>
    split
    · exact .steady (.refl s)
    · next unmapped =>
      split
      · exact .steady (.refl s)
      · next room =>
        have checks := (firstFault_none_iff _).mp fields
        exact .adds r s.link ((serialOk_iff _).mp (checks (1, serialOk r.serial) (by simp))) (by simpa using unmapped)
          (Nat.lt_of_not_le room)

theorem removeMeterAnswer (serial : Nat) (s : State) : DirectoryEffect s (removeMeterAnswer serial s).state := by
  unfold Machine.removeMeterAnswer
  split
  · exact .steady (.refl s)
  · split
    · exact .steady (.refl s)
    · next ch m found =>
      split
      · exact .steady (.refl s)
      · exact .removes serial ch m _ found

theorem replaceAnswer (r : ReplaceReq) (s : State) : DirectoryEffect s (replaceAnswer r s).state := by
  unfold Machine.replaceAnswer
  split
  · exact .steady (.refl s)
  · next fields =>
    split
    · exact .steady (.refl s)
    · next ch m found =>
      split
      · exact .steady (.refl s)
      · next untaken =>
        split
        · exact .steady (.refl s)
        · next notBefore =>
          split
          · exact .steady (.refl s)
          · exact .replaces r ch m s.link fields found (by simpa using untaken) (by simpa using notBefore)

theorem attachAnswer (r : AttachReq) (s : State) : DirectoryEffect s (attachAnswer r s).state := by
  unfold Machine.attachAnswer
  split
  · exact .steady (.refl s)
  · next fields =>
    split
    · exact .steady (.refl s)
    · next ch m found =>
      split
      · exact .steady (.refl s)
      · split
        · exact .steady (.refl s)
        · next fits => exact .attaches r ch m _ fields found (by simpa using fits)

end DirectoryEffect

/-- A request whose owner is steady. -/
theorem serve_steady {kind tag : Byte} {payload : List Byte} {owner : List Byte → State → Answer} {s t : State}
    (h : ∀ p u, Steady u (owner p u).state) (e : serve kind tag payload owner s = .next t) :
    DirectoryEffect s.popIntake t :=
  .serve (fun p u => .steady (h p u)) e

/-- A request that is parsed whole before its owner, a steady one, takes it. -/
theorem serve_withFields_steady {α : Type} {kind tag : Byte} {payload : List Byte} {parse : List Byte → Option α}
    {owner : α → State → Answer} {s t : State} (h : ∀ r u, Steady u (owner r u).state)
    (e : serve kind tag payload (fun p s => withFields (parse p) s fun r => owner r s) s = .next t) :
    DirectoryEffect s.popIntake t :=
  serve_steady (fun _ u => .withFields _ fun r => h r u) e

/-- A reset command. -/
abbrev Instr.Resets (c : Instr) : Prop := c = .restartTakesEffect ∨ ∃ high, c = .resetPinRelease high

/-- What a command other than a reset does, or what a reset that occurs leaves. -/
theorem exec_effect {c : Instr} {s t : State} (e : exec c s = .next t) :
    DirectoryEffect s.popIntake t ∨ (Instr.Resets c ∧ ∃ l, t = fullReset l s ∨ t = runtimeReset l s) := by
  have unmoved : Steady s.popIntake s := .of_tables_eq rfl rfl rfl rfl rfl
  have here (h : Steady s t) : DirectoryEffect s.popIntake t := .steady (unmoved.trans h)
  cases c
  case addMeter => exact .inl (.serve (fun _ u => .withFields _ fun r => .addMeterAnswer r u) e)
  case removeMeter => exact .inl (.serve (fun _ u => .withFields _ fun r => .removeMeterAnswer r u) e)
  case replaceMeter => exact .inl (.serve (fun _ u => .withFields _ fun r => .replaceAnswer r u) e)
  case attachMeter => exact .inl (.serve (fun _ u => .withFields _ fun r => .attachAnswer r u) e)
  case meterRead => exact .inl (serve_withFields_steady Steady.meterReadAnswer e)
  case reading => exact .inl (serve_withFields_steady (owner := readingAnswer) Steady.takeRecord e)
  case readingBatch events => exact .inl (serve_withFields_steady (fun r u => Steady.batchAnswer r events u) e)
  case clockMark => exact .inl (serve_withFields_steady Steady.clockMarkAnswer e)
  case partSet => exact .inl (serve_withFields_steady Steady.partSetAnswer e)
  case partStatus => exact .inl (serve_withFields_steady (fun _ u => Steady.refl u) e)
  case zoneSet => exact .inl (serve_withFields_steady Steady.zoneSetAnswer e)
  case forceClose => exact .inl (serve_withFields_steady Steady.forceCloseAnswer e)
  case zoneStart => exact .inl (serve_withFields_steady Steady.zoneStartAnswer e)
  case zoneStop => exact .inl (serve_withFields_steady Steady.zoneStopAnswer e)
  case zoneSurvey => exact .inl (serve_withFields_steady Steady.zoneSurveyAnswer e)
  case excludeNight => exact .inl (serve_withFields_steady Steady.excludeNightAnswer e)
  case acceptLevel => exact .inl (serve_withFields_steady Steady.acceptLevelAnswer e)
  case ackZone => exact .inl (serve_withFields_steady Steady.ackZoneAnswer e)
  case resetZone => exact .inl (serve_withFields_steady Steady.resetZoneAnswer e)
  case zoneRead => exact .inl (serve_withFields_steady Steady.zoneReadAnswer e)
  case zoneProfile => exact .inl (serve_withFields_steady Steady.zoneProfileAnswer e)
  case groupSet => exact .inl (serve_withFields_steady Steady.groupSetAnswer e)
  case groupRead => exact .inl (serve_withFields_steady Steady.groupReadAnswer e)
  case historyRead => exact .inl (serve_withFields_steady Steady.historyReadAnswer e)
  case unfreeze => exact .inl (serve_withFields_steady Steady.unfreezeAnswer e)
  case reportHold => exact .inl (serve_withFields_steady (fun _ => Steady.reportHoldAnswer) e)
  case reportRelease => exact .inl (serve_withFields_steady (fun _ => Steady.reportReleaseAnswer) e)
  case captureRead => exact .inl (serve_withFields_steady (fun _ u => Steady.refl u) e)
  case clearCapture => exact .inl (serve_withFields_steady (fun _ u => .of_tables_eq rfl rfl rfl rfl rfl) e)
  case testStart => exact .inl (serve_withFields_steady Steady.testStartAnswer e)
  case testCancel => exact .inl (serve_withFields_steady (fun _ => Steady.testCancelAnswer) e)
  case testRead => exact .inl (serve_withFields_steady (fun _ u => Steady.refl u) e)
  case testClear => exact .inl (serve_withFields_steady (fun _ u => .of_tables_eq rfl rfl rfl rfl rfl) e)
  case noticeFetch => exact .inl (serve_withFields_steady (fun _ u => .of_tables_eq rfl rfl rfl rfl rfl) e)
  case restart => exact .inl (serve_withFields_steady Steady.restartAnswer e)
  case unknownKind =>
    simp only [exec, execUnknownKind] at e
    split at e
    · cases e
      exact .inl (here (.refl _))
    · exact .inl (serve_steady (fun _ u => Steady.refl u) e)
  case restartTakesEffect =>
    simp only [exec, execRestartTakesEffect] at e
    split at e <;> cases e
    · exact .inr ⟨.inl rfl, _, .inr rfl⟩
    · exact .inr ⟨.inl rfl, _, .inl rfl⟩
    · exact .inl (here (.refl _))
  case frameReceived =>
    simp only [exec, execFrameReceived] at e
    split at e <;> cases e
    · exact .inl (here (.of_tables_eq rfl rfl rfl rfl rfl))
    · exact .inl (here (.refl _))
  case interByteGap =>
    cases e
    exact .inl (here (.of_tables_eq rfl rfl rfl rfl rfl))
  case resetPinAssert =>
    have e : Host.Outcome.next (abandonAll s) = .next t := e
    injection e with e
    exact .inl (here (e ▸ .abandonAll s))
  case resetPinRelease high =>
    simp only [exec, execResetPinRelease] at e
    split at e <;> cases e
    · exact .inr ⟨.inr ⟨high, rfl⟩, _, .inl rfl⟩
    · exact .inl (here (.refl _))
  case startupReady =>
    simp only [exec, execStartupReady] at e
    split at e <;> cases e
    · exact .inl (here (.of_tables_eq rfl rfl rfl rfl rfl))
    · exact .inl (here (.refl _))
  case closeStart =>
    simp only [exec, execCloseStart] at e
    split at e
    · split at e <;> cases e
      · exact .inl (here (.startClose _ s))
      · exact .inl (here (.refl _))
    · cases e
      exact .inl (here (.refl _))
  case testRunStart =>
    simp only [exec, execTestRunStart] at e
    split at e
    · split at e <;> cases e
      · exact .inl (here (.startTest _ s))
      · exact .inl (here (.refl _))
    · cases e
      exact .inl (here (.refl _))
  case closeCompletion =>
    simp only [exec, execCloseCompletion] at e
    split at e
    · split at e <;> cases e
      · exact .inl (here (.completeClose _ s))
      · exact .inl (here (.refl _))
    · cases e
      exact .inl (here (.refl _))
  case testRunCompletion =>
    simp only [exec, execTestRunCompletion] at e
    split at e
    · split at e <;> cases e
      · exact .inl (here (.completeTest _ s))
      · exact .inl (here (.refl _))
    · cases e
      exact .inl (here (.refl _))

/-! ### The three invariants -/

/-- Two meters with the same zones on their sides and cover records on the same sides. -/
abbrev Meter.SameSides (m m' : Meter) : Prop :=
  ∀ side, m'.zoneOn side = m.zoneOn side ∧ (m'.coverOn side).isSome = (m.coverOn side).isSome

theorem Meter.Follows.sameSides {m m' : Meter} (h : m.Follows m') : m.SameSides m' := fun side =>
  ⟨h.zones side, h.covers side⟩

theorem Meter.SameSides.sidesOk {m m' : Meter} (h : m.SameSides m') (ok : m.SidesOk) : m'.SidesOk := by
  have hf := h .fromSide
  have ht := h .toSide
  simp only [Meter.zoneOn, Meter.coverOn] at hf ht
  simpa only [Meter.SidesOk, hf.1, hf.2, ht.1, ht.2] using ok

theorem rel_some_right {R : Meter → Meter → Prop} {o o' : Option Meter} (h : Option.Rel R o o') {m' : Meter}
    (hm' : o' = some m') : ∃ m, o = some m ∧ R m m' := by
  subst hm'
  cases h with
  | some r => exact ⟨_, rfl, r⟩

theorem rel_some_left {R : Meter → Meter → Prop} {o o' : Option Meter} (h : Option.Rel R o o') {m : Meter}
    (hm : o = some m) : ∃ m', o' = some m' ∧ R m m' := by
  subst hm
  cases h with
  | some r => exact ⟨_, rfl, r⟩

theorem rel_imp {R S : Meter → Meter → Prop} {o o' : Option Meter} (h : Option.Rel R o o')
    (imp : ∀ m m', R m m' → S m m') : Option.Rel S o o' := by
  cases h with
  | none => exact .none
  | some r => exact .some (imp _ _ r)

theorem AttachOk.of_sameSides {s t : State} (lists : ∀ z, (t.zone z).attach = (s.zone z).attach)
    (meters : ∀ ch, Option.Rel Meter.SameSides (s.meter? ch) (t.meter? ch)) (ok : AttachOk s) : AttachOk t := by
  obtain ⟨sides, forms, entries⟩ := ok
  refine ⟨fun ch m' hm' => ?_, fun z => lists z ▸ forms z, fun z ch side hz => ?_⟩
  · obtain ⟨m, hm, same⟩ := rel_some_right (meters ch) hm'
    exact same.sidesOk (sides ch m hm)
  · rw [lists, entries z ch side hz]
    constructor
    · rintro ⟨m, hm, on⟩
      obtain ⟨m', hm', same⟩ := rel_some_left (meters ch) hm
      exact ⟨m', hm', (same side).1.trans on⟩
    · rintro ⟨m', hm', on⟩
      obtain ⟨m, hm, same⟩ := rel_some_right (meters ch) hm'
      exact ⟨m, hm, (same side).1.symm.trans on⟩

namespace Steady

theorem directoryOk {s t : State} (h : Steady s t) (tables : TablesOk s) (ok : DirectoryOk s) : DirectoryOk t := by
  obtain ⟨records, map⟩ := ok
  have based := h.based tables fun ch m hm => (records ch m hm).2.2
  refine ⟨fun ch m' hm' => ?_, fun serial ch => ?_⟩
  · obtain ⟨m, hm, follows⟩ := rel_some_right (h.meters ch) hm'
    obtain ⟨hch, hserial, -⟩ := records ch m hm
    exact ⟨hch, follows.serial ▸ hserial, based ch m' hm'⟩
  · have channel : t.channelOf serial = s.channelOf serial := congrArg (fun u => Table.find? u serial) h.serials
    rw [channel, map]
    constructor
    · rintro ⟨m, hm, rfl⟩
      obtain ⟨m', hm', follows⟩ := rel_some_left (h.meters ch) hm
      exact ⟨m', hm', follows.serial⟩
    · rintro ⟨m', hm', rfl⟩
      obtain ⟨m, hm, follows⟩ := rel_some_right (h.meters ch) hm'
      exact ⟨m, hm, follows.serial.symm⟩

theorem attachOk {s t : State} (h : Steady s t) (ok : AttachOk s) : AttachOk t :=
  ok.of_sameSides h.attach fun ch => rel_imp (h.meters ch) fun _ _ follows => follows.sameSides

end Steady

/-! ### The canonical form -/

theorem DirectoryEffect.tablesOk {s t : State} (h : DirectoryEffect s t) (ok : TablesOk s) : TablesOk t := by
  cases h with
  | steady h => exact h.tables ok
  | adds => exact (ok.setMeter _ _).mapSerial _ _
  | removes => exact (ok.detachMeter _ _).dropMeter _ _
  | replaces => exact ((ok.unmapSerial _).mapSerial _ _).setMeter _ _
  | attaches => exact (ok.relistMeter _ _ _).setMeter _ _

theorem tablesOk_reset : TablesOk State.reset :=
  ⟨.nil, .nil, ⟨.nil, fun _ h => nomatch h⟩, ⟨.nil, fun _ h => nomatch h⟩⟩

theorem tablesOk_fullReset (l : Link) (s : State) : TablesOk (fullReset l s) := tablesOk_reset

theorem TablesOk.runtimeReset {s : State} (ok : TablesOk s) (l : Link) : TablesOk (runtimeReset l s) := by
  obtain ⟨meters, serials, zones, groups⟩ := ok
  exact ⟨Table.map_rising meters _, serials, Table.mapListed_canonical zones.1 _, Table.mapListed_canonical groups.1 _⟩

/-! ### The directory -/

/-- R1: a serial that resolves names exactly its channel, and the record there has it. -/
theorem DirectoryOk.found {s : State} (ok : DirectoryOk s) {serial ch : Nat} {m : Meter}
    (h : s.meterBySerial serial = some (ch, m)) : s.meter? ch = some m ∧ m.serial = serial := by
  obtain ⟨channel, hm⟩ := State.meterBySerial_some h
  obtain ⟨m', hm', rfl⟩ := (ok.2 serial ch).mp channel
  cases hm.symm.trans hm'
  exact ⟨hm, rfl⟩

theorem replaceFault_none {r : ReplaceReq} (h : replaceFault r = none) :
    SerialValid (r.newSerial.getD r.serial) := by
  have checks := (firstFault_none_iff _).mp h
  have old := checks (1, serialOk r.serial) (by simp)
  have new := checks (2, (r.newSerial.map serialOk).getD true) (by simp)
  cases hn : r.newSerial with
  | none => exact (serialOk_iff _).mp old
  | some n => exact (serialOk_iff _).mp (by simpa [hn] using new)

theorem DirectoryOk.setMeter_same {s : State} (ok : DirectoryOk s) {ch : Nat} {m m' : Meter} (hm : s.meter? ch = some m)
    (serial : m'.serial = m.serial) (based : m'.Based) : DirectoryOk (s.setMeter ch m') := by
  obtain ⟨records, map⟩ := ok
  refine ⟨fun j x hx => ?_, fun n j => ?_⟩
  · rw [State.meter_setMeter] at hx
    split at hx
    · next h =>
      cases hx
      obtain ⟨hch, hserial, -⟩ := records ch m hm
      exact ⟨h ▸ hch, serial ▸ hserial, based⟩
    · exact records j x hx
  · rw [State.setMeter_channelOf, map, State.meter_setMeter]
    split
    · next h => subst h; simp [hm, serial]
    · rfl

theorem DirectoryOk.of_tables_eq {s t : State} (ok : DirectoryOk s) (meters : t.meters = s.meters)
    (serials : t.serials = s.serials) : DirectoryOk t := by
  simpa only [DirectoryOk, State.meter?, State.channelOf, meters, serials] using ok

/-- R8: a new record at a free channel, under a serial that was in no record. -/
theorem DirectoryOk.add {s : State} (ok : DirectoryOk s) {r : AddMeterReq} {ch : Nat} (hch : ch < 2048)
    (free : s.meter? ch = none) (serial : SerialValid r.serial) (unmapped : s.channelOf r.serial = none) :
    DirectoryOk ((s.setMeter ch (newMeter r)).mapSerial r.serial ch) := by
  obtain ⟨records, map⟩ := ok
  refine ⟨fun j m hm => ?_, fun n j => ?_⟩
  · rw [State.mapSerial_meter, State.meter_setMeter] at hm
    split at hm
    · next h =>
      cases hm
      exact ⟨h ▸ hch, serial, by simp [newMeter]⟩
    · exact records j m hm
  · rw [State.channelOf_mapSerial, State.mapSerial_meter, State.meter_setMeter, State.setMeter_channelOf]
    by_cases hn : n = r.serial
    · subst hn
      by_cases hj : j = ch
      · simp [hj, newMeter]
      · have none : ¬ ∃ m, s.meter? j = some m ∧ m.serial = r.serial := fun h => by
          simpa [unmapped] using (map r.serial j).mpr h
        simpa [hj, Ne.symm hj] using none
    · by_cases hj : j = ch
      · have none : s.channelOf n ≠ some ch := fun h => by
          obtain ⟨m, hm, -⟩ := (map n ch).mp h
          cases free.symm.trans hm
        simpa [hn, hj, newMeter, Ne.symm hn] using none
      · simpa [hn, hj] using map n j

/-- R11: a record and its serial leave together. -/
theorem DirectoryOk.drop {s : State} (ok : DirectoryOk s) {serial ch : Nat} {m : Meter}
    (found : s.meterBySerial serial = some (ch, m)) : DirectoryOk (s.dropMeter ch serial) := by
  obtain ⟨hm, rfl⟩ := ok.found found
  obtain ⟨records, map⟩ := ok
  have channel : s.channelOf m.serial = some ch := (map _ _).mpr ⟨m, hm, rfl⟩
  refine ⟨fun j x hx => ?_, fun n j => ?_⟩
  · rw [State.meter_dropMeter] at hx
    split at hx
    · cases hx
    · exact records j x hx
  · rw [State.channelOf_dropMeter, State.meter_dropMeter]
    by_cases hn : n = m.serial
    · subst hn
      by_cases hj : j = ch
      · simp [hj]
      · have none : ¬ ∃ x, s.meter? j = some x ∧ x.serial = m.serial := fun h => by
          have := (map m.serial j).mpr h
          exact hj (Option.some.inj (this.symm.trans channel))
        simpa [hj] using none
    · by_cases hj : j = ch
      · have none : s.channelOf n ≠ some ch := fun h => by
          obtain ⟨x, hx, rfl⟩ := (map n ch).mp h
          cases hm.symm.trans hx
          exact hn rfl
        simpa [hn, hj] using none
      · simpa [hn, hj] using map n j

/-- R13: a record takes a serial that is its own or in no record. -/
theorem DirectoryOk.reserial {s : State} (ok : DirectoryOk s) {serial new ch : Nat} {m m' : Meter}
    (found : s.meterBySerial serial = some (ch, m)) (valid : SerialValid new)
    (untaken : new ≠ serial → s.channelOf new = none) (named : m'.serial = new) (based : m'.Based) :
    DirectoryOk (((s.unmapSerial serial).mapSerial new ch).setMeter ch m') := by
  obtain ⟨hm, rfl⟩ := ok.found found
  obtain ⟨records, map⟩ := ok
  have channel : s.channelOf m.serial = some ch := (map _ _).mpr ⟨m, hm, rfl⟩
  have elsewhere {n j : Nat} (hj : j ≠ ch) (h : n = m.serial ∨ n = new) : ¬ ∃ x, s.meter? j = some x ∧ x.serial = n := by
    intro hx
    have at_j := (map n j).mpr hx
    by_cases own : n = m.serial
    · exact hj (Option.some.inj (at_j.symm.trans (own ▸ channel)))
    · have hn := h.resolve_left own
      cases at_j.symm.trans (hn ▸ untaken (hn ▸ own))
  refine ⟨fun j x hx => ?_, fun n j => ?_⟩
  · rw [State.meter_setMeter] at hx
    split at hx
    · next h =>
      cases hx
      exact ⟨h ▸ (records ch m hm).1, named ▸ valid, based⟩
    · exact records j x hx
  · rw [State.setMeter_channelOf, State.channelOf_mapSerial, State.channelOf_unmapSerial, State.meter_setMeter,
      State.mapSerial_meter, State.unmapSerial_meter]
    by_cases hj : j = ch
    · subst hj
      by_cases hn : n = new
      · simp [hn, named]
      · have other : n ≠ m.serial → s.channelOf n ≠ some j := fun hne h => by
          obtain ⟨x, hx, rfl⟩ := (map n j).mp h
          cases hm.symm.trans hx
          exact hne rfl
        simpa [hn, named, Ne.symm hn] using other
    · by_cases hn : n = new
      · simpa [hn, hj, Ne.symm hj] using elsewhere hj (.inr rfl)
      · by_cases ho : n = m.serial
        · subst ho
          simpa [hn, hj] using elsewhere hj (.inl rfl)
        · simpa [hn, hj, ho] using map n j

theorem serialTaken_false {s : State} {r : ReplaceReq} (h : serialTaken s r = false)
    (hne : r.newSerial.getD r.serial ≠ r.serial) : s.channelOf (r.newSerial.getD r.serial) = none := by
  cases hn : r.newSerial with
  | none => simp [hn] at hne
  | some n =>
    simp only [hn, Option.getD_some] at hne ⊢
    simpa [serialTaken, hn, hne] using h

theorem DirectoryEffect.directoryOk {s t : State} (h : DirectoryEffect s t) (tables : TablesOk s) (ok : DirectoryOk s) :
    DirectoryOk t := by
  cases h with
  | steady h => exact h.directoryOk tables ok
  | adds r l serial unmapped room =>
    obtain ⟨hch, free, -⟩ := lowestFree_spec room
    exact ok.add hch free serial unmapped
  | removes serial ch m l found =>
    have frame := detachMeter_frame ch m s
    have detached : DirectoryOk (detachMeter ch m s) :=
      ok.of_tables_eq (congrArg State.meters frame :) (congrArg State.serials frame :)
    exact detached.drop (serial := serial) (m := m) ((congrArg (fun u => u.meterBySerial serial) frame :).trans found)
  | replaces r ch m l fields found untaken notBefore =>
    exact ok.reserial found (replaceFault_none fields) (serialTaken_false untaken) rfl (by simp [Meter.Based, replacedMeter])
  | attaches r ch m l fields found fits =>
    have frame := relistMeter_frame ch m r s
    have relisted : DirectoryOk (relistMeter ch m r s) :=
      ok.of_tables_eq (congrArg State.meters frame :) (congrArg State.serials frame :)
    have hm := (ok.found found).1
    exact relisted.setMeter_same ((congrArg (fun u => u.meter? ch) frame :).trans hm) rfl (ok.1 ch m hm).2.2

theorem directoryOk_reset : DirectoryOk State.reset :=
  ⟨fun _ _ h => (nomatch h), fun _ _ => ⟨fun h => (nomatch h), fun ⟨_, h, _⟩ => (nomatch h)⟩⟩

theorem directoryOk_fullReset (l : Link) (s : State) : DirectoryOk (fullReset l s) := directoryOk_reset

theorem runtimeReset_meter (l : Link) (s : State) (ch : Nat) :
    (runtimeReset l s).meter? ch = (s.meter? ch).map Meter.runtimeReset := Table.find?_map _ _ _

theorem DirectoryOk.runtimeReset {s : State} (ok : DirectoryOk s) (l : Link) : DirectoryOk (runtimeReset l s) := by
  obtain ⟨records, map⟩ := ok
  refine ⟨fun ch m' hm' => ?_, fun serial ch => ?_⟩
  · rw [runtimeReset_meter] at hm'
    obtain ⟨m, hm, rfl⟩ := Option.map_eq_some_iff.mp hm'
    exact records ch m hm
  · rw [runtimeReset_meter]
    refine (map serial ch).trans ?_
    cases s.meter? ch <;> simp [Meter.runtimeReset, Meter.rebuildCovers]

/-! ### The attachments -/

theorem freshCover_isSome (z : Nat) : (freshCover z).isSome = true ↔ z ≠ 0 := by
  unfold freshCover
  split <;> simp_all

theorem AttachOk.setMeter_same {s : State} (ok : AttachOk s) {ch : Nat} {m m' : Meter} (hm : s.meter? ch = some m)
    (same : m.SameSides m') : AttachOk (s.setMeter ch m') := by
  refine AttachOk.of_sameSides (s := s) (fun _ => rfl) (fun j => ?_) ok
  rw [State.meter_setMeter]
  split
  · next h => exact h ▸ hm ▸ .some same
  · exact rel_imp (followsRel_refl _) fun _ _ follows => follows.sameSides

/-- R3, R8: a new meter is on no zone. -/
theorem AttachOk.add {s : State} (ok : AttachOk s) (r : AddMeterReq) {ch : Nat} (free : s.meter? ch = none) :
    AttachOk (s.setMeter ch (newMeter r)) := by
  obtain ⟨sides, forms, entries⟩ := ok
  refine ⟨fun j m hm => ?_, forms, fun z j side hz => ?_⟩
  · rw [State.meter_setMeter] at hm
    split at hm
    · cases hm
      simp [Meter.SidesOk, newMeter]
    · exact sides j m hm
  · rw [State.setMeter_zone, entries z j side hz, State.meter_setMeter]
    split
    · next h =>
      subst h
      cases side <;> simp [free, newMeter, Meter.zoneOn, Ne.symm hz]
    · rfl

theorem listOk_detach {l : List Attachment} (ok : ListOk l) (ch : Nat) :
    ListOk (l.filter fun a => decide (a.channel ≠ ch)) :=
  ⟨ok.1.filter _, (List.length_filter_le _ _).trans ok.2⟩

/-- R11: a meter leaves with its entries. -/
theorem AttachOk.remove {s : State} (ok : AttachOk s) {ch : Nat} {m : Meter} (serial : Nat) (hm : s.meter? ch = some m) :
    AttachOk ((detachMeter ch m s).dropMeter ch serial) := by
  have zone {z : Nat} (hz : z ≠ 0) := detachMeter_zone ok hm hz
  have meter (j : Nat) : (detachMeter ch m s).meter? j = s.meter? j :=
    (congrArg (fun u => u.meter? j) (detachMeter_frame ch m s) :)
  obtain ⟨sides, forms, entries⟩ := ok
  refine ⟨fun j x hx => ?_, fun z => ?_, fun z j side hz => ?_⟩
  · rw [State.meter_dropMeter, meter] at hx
    split at hx
    · cases hx
    · exact sides j x hx
  · rw [State.dropMeter_zone]
    by_cases hz : z = 0
    · rw [hz, detachMeter_outside]
      exact forms 0
    · rw [zone hz]
      exact listOk_detach (forms z) ch
  · rw [State.dropMeter_zone, State.meter_dropMeter, zone hz, meter]
    simp only [Zone.detach, List.mem_filter, decide_eq_true_eq, entries z j side hz]
    by_cases hj : j = ch <;> simp [hj]

/-- R9, R10: a meter's new zones, and the lists with it. -/
theorem AttachOk.attach {s : State} (ok : AttachOk s) {r : AttachReq} {ch : Nat} {m : Meter} (apart : r.Apart)
    (hm : s.meter? ch = some m) (fits : attachFull ch m r s = false) :
    AttachOk ((relistMeter ch m r s).setMeter ch (m.attachTo r.fromZone r.toZone)) := by
  have zone {z : Nat} (hz : z ≠ 0) := relistMeter_zone r ok hm hz
  have meter (j : Nat) : (relistMeter ch m r s).meter? j = s.meter? j :=
    (congrArg (fun u => u.meter? j) (relistMeter_frame ch m r s) :)
  obtain ⟨sides, forms, entries⟩ := ok
  refine ⟨fun j x hx => ?_, fun z => ?_, fun z j side hz => ?_⟩
  · rw [State.meter_setMeter, meter] at hx
    split at hx
    · cases hx
      exact ⟨apart, freshCover_isSome _, freshCover_isSome _⟩
    · exact sides j x hx
  · rw [State.setMeter_zone]
    by_cases hz : z = 0
    · rw [hz, relistMeter_outside]
      exact forms 0
    · have within : ((relistMeter ch m r s).zone z).attach.length ≤ 48 := by
        by_cases named : z = r.fromZone ∨ z = r.toZone
        · have := mt (attachFull_iff ch m r s).mpr (by simp [fits])
          by_contra long
          exact this ⟨z, by simpa using named, hz, Nat.lt_of_not_le long⟩
        · rw [zone hz, length_relisted apart hz, if_neg named]
          exact (listOk_detach (forms z) ch).2
      refine ⟨?_, within⟩
      rw [zone hz]
      exact relisted_sorted apart hz (forms z).1
  · rw [State.setMeter_zone, State.meter_setMeter, zone hz, meter, mem_relisted]
    by_cases hj : j = ch
    · subst hj
      cases side <;> simp [Meter.attachTo, Meter.rebuildCovers, Meter.zoneOn, eq_comm]
    · simp [hj, entries z j side hz]

theorem DirectoryEffect.attachOk {s t : State} (h : DirectoryEffect s t) (ok : AttachOk s) : AttachOk t := by
  cases h with
  | steady h => exact h.attachOk ok
  | adds r l serial unmapped room => exact ok.add r (lowestFree_spec room).2.1
  | removes serial ch m l found => exact ok.remove serial (State.meterBySerial_some found).2
  | replaces r ch m l fields found untaken notBefore =>
    have kept : AttachOk ((s.unmapSerial r.serial).mapSerial (r.newSerial.getD r.serial) ch) := ok
    exact kept.setMeter_same (State.meterBySerial_some found).2 fun side => by
      cases side <;> simp [Meter.zoneOn, Meter.coverOn, replacedMeter]
  | attaches r ch m l fields found fits =>
    exact ok.attach (attachFault_none fields).2 (State.meterBySerial_some found).2 fits

theorem attachOk_reset : AttachOk State.reset :=
  ⟨fun _ _ h => (nomatch h), fun _ => ⟨.nil, Nat.zero_le _⟩,
    fun _ _ _ _ => ⟨fun h => (nomatch h), fun ⟨_, h, _⟩ => (nomatch h)⟩⟩

theorem attachOk_fullReset (l : Link) (s : State) : AttachOk (fullReset l s) := attachOk_reset

theorem runtimeReset_attach {s : State} (zones : Table.Rising s.zones) (l : Link) (z : Nat) :
    ((runtimeReset l s).zone z).attach = (s.zone z).attach := by
  have read : (runtimeReset l s).zone z = ((Table.find? s.zones z).map Zone.runtimeReset).getD Zone.reset :=
    Table.read_mapListed zones _ z
  rw [read, State.zone, Table.read]
  cases Table.find? s.zones z <;> rfl

theorem AttachOk.runtimeReset {s : State} (ok : AttachOk s) (tables : TablesOk s) (l : Link) :
    AttachOk (runtimeReset l s) := by
  refine ok.of_sameSides (runtimeReset_attach tables.2.2.1.1 l) fun ch => ?_
  rw [runtimeReset_meter]
  cases hm : s.meter? ch with
  | none => exact .none
  | some m =>
    obtain ⟨-, fromCover, toCover⟩ := ok.1 ch m hm
    refine .some fun side => ⟨by cases side <;> rfl, Bool.eq_iff_iff.mpr ?_⟩
    cases side
    · exact (freshCover_isSome _).trans fromCover.symm
    · exact (freshCover_isSome _).trans toCover.symm

/-! ### Steps -/

/-- What every command keeps, whatever waits behind it, every step keeps. -/
theorem step_keeps {P : State → Prop} (queue : ∀ s q, P s → P { s with pending := q })
    (keeps : ∀ c s t, P s → exec c s = .next t → P t) {s t : State} (h : P s) (e : step s = .next t) : P t := by
  unfold step at e
  split at e
  · cases e
    exact h
  · exact keeps _ _ _ (queue s _ h) e

theorem exec_keeps_tables {c : Instr} {s t : State} (ok : TablesOk s) (e : exec c s = .next t) : TablesOk t := by
  rcases exec_effect e with effect | ⟨-, l, rfl | rfl⟩
  · exact effect.tablesOk ok
  · exact tablesOk_fullReset l s
  · exact ok.runtimeReset l

theorem exec_keeps_directory {c : Instr} {s t : State} (tables : TablesOk s) (ok : DirectoryOk s)
    (e : exec c s = .next t) : DirectoryOk t := by
  rcases exec_effect e with effect | ⟨-, l, rfl | rfl⟩
  · exact effect.directoryOk tables ok
  · exact directoryOk_fullReset l s
  · exact ok.runtimeReset l

theorem exec_keeps_attachments {c : Instr} {s t : State} (tables : TablesOk s) (ok : AttachOk s)
    (e : exec c s = .next t) : AttachOk t := by
  rcases exec_effect e with effect | ⟨-, l, rfl | rfl⟩
  · exact effect.attachOk ok
  · exact attachOk_fullReset l s
  · exact ok.runtimeReset tables l

/-- Settles O20: every command is steady, one of the directory's four, or a reset, and each keeps the form. -/
theorem tablesStayCanonical : Obligations.TablesStayCanonical := by
  unfold Obligations.TablesStayCanonical
  exact fun s t ok e => step_keeps (P := TablesOk) (fun _ _ h => h) (fun _ _ _ => exec_keeps_tables) ok e

/-- Settles O26. -/
theorem directoryStaysConsistent : Obligations.DirectoryStaysConsistent := by
  unfold Obligations.DirectoryStaysConsistent
  exact fun s t tables ok e => (step_keeps (P := fun s => TablesOk s ∧ DirectoryOk s) (fun _ _ h => h)
    (fun _ _ _ h e => ⟨exec_keeps_tables h.1 e, exec_keeps_directory h.1 h.2 e⟩) ⟨tables, ok⟩ e).2

/-- Settles O27. -/
theorem attachmentsStayConsistent : Obligations.AttachmentsStayConsistent := by
  unfold Obligations.AttachmentsStayConsistent
  exact fun s t tables ok e => (step_keeps (P := fun s => TablesOk s ∧ AttachOk s) (fun _ _ h => h)
    (fun _ _ _ h e => ⟨exec_keeps_tables h.1 e, exec_keeps_attachments h.1 h.2 e⟩) ⟨tables, ok⟩ e).2

end Sys2Proof.Machine
end

section
/-! SUPPORT. R6, R38: the clock and the base times; and the invariants of the state right after reset. -/

namespace Sys2Proof.Machine

/-! ### The clock and the base times (R6, R38) -/

theorem DirectoryEffect.clock {s t : State} (h : DirectoryEffect s t) : ∀ c ∈ s.clock, ∃ c' ∈ t.clock, c ≤ c' := by
  cases h with
  | steady h => exact h.clock
  | adds => exact clock_refl s
  | removes serial ch m l found =>
    have same : (detachMeter ch m s).clock = s.clock := (congrArg State.clock (detachMeter_frame ch m s) :)
    exact same ▸ clock_refl s
  | replaces => exact clock_refl s
  | attaches r ch m l fields found fits =>
    have same : (relistMeter ch m r s).clock = s.clock := (congrArg State.clock (relistMeter_frame ch m r s) :)
    exact same ▸ clock_refl s

/-- A base that a record has stays present, and no earlier, while the record stays. -/
abbrev Meter.KeepsBase (m m' : Meter) : Prop := ∀ b ∈ m.base, ∃ b' ∈ m'.base, b.time ≤ b'.time

theorem beforeBase_false {m : Meter} {time : Nat} (h : beforeBase m time = false) : ∀ b ∈ m.base, b.time ≤ time := by
  intro b hb
  have hb : m.base = some b := hb
  simpa [beforeBase, hb] using h

theorem DirectoryEffect.keepsBase {s t : State} (h : DirectoryEffect s t) {j : Nat} {x x' : Meter}
    (hx : s.meter? j = some x) (hx' : t.meter? j = some x') : x.KeepsBase x' := by
  have same (h : s.meter? j = some x') : x.KeepsBase x' := by
    cases hx.symm.trans h
    exact (Meter.Follows.refl x).base
  cases h with
  | steady h =>
    obtain ⟨y, hy, follows⟩ := rel_some_left (h.meters j) hx
    cases hx'.symm.trans hy
    exact follows.base
  | adds r l serial unmapped room =>
    have hx' : (s.setMeter (lowestFree s) (newMeter r)).meter? j = some x' := hx'
    rw [State.meter_setMeter] at hx'
    split at hx'
    · next h => cases hx.symm.trans (h ▸ (lowestFree_spec room).2.1)
    · exact same hx'
  | removes serial ch m l found =>
    have hx' : ((detachMeter ch m s).dropMeter ch serial).meter? j = some x' := hx'
    rw [State.meter_dropMeter] at hx'
    split at hx'
    · cases hx'
    · exact same ((congrArg (fun u => u.meter? j) (detachMeter_frame ch m s) :).symm.trans hx')
  | replaces r ch m l fields found untaken notBefore =>
    have hx' : (s.setMeter ch (replacedMeter m r)).meter? j = some x' := hx'
    rw [State.meter_setMeter] at hx'
    split at hx'
    · next h =>
      cases hx'
      cases (h ▸ hx).symm.trans (State.meterBySerial_some found).2
      exact fun b hb => ⟨_, rfl, beforeBase_false notBefore b hb⟩
    · exact same hx'
  | attaches r ch m l fields found fits =>
    have hx' : ((relistMeter ch m r s).setMeter ch (m.attachTo r.fromZone r.toZone)).meter? j = some x' := hx'
    rw [State.meter_setMeter] at hx'
    split at hx'
    · next h =>
      cases hx'
      cases (h ▸ hx).symm.trans (State.meterBySerial_some found).2
      exact (Meter.Follows.refl x).base
    · exact same ((congrArg (fun u => u.meter? j) (relistMeter_frame ch m r s) :).symm.trans hx')

/-- A step is idle, or runs the command at the front of the queue. -/
theorem step_cases {s t : State} (e : step s = .next t) :
    t = s ∨ ∃ c rest, s.pending = c :: rest ∧ exec c { s with pending := rest } = .next t := by
  unfold step at e
  split at e
  · cases e
    exact .inl rfl
  · next c rest h => exact .inr ⟨c, rest, h, e⟩

theorem exec_keepsBase {c : Instr} {s t : State} (e : exec c s = .next t) {ch : Nat} {m m' : Meter}
    (hm : s.meter? ch = some m) (hm' : t.meter? ch = some m') : m.KeepsBase m' := by
  rcases exec_effect e with effect | ⟨-, l, rfl | rfl⟩
  · exact effect.keepsBase hm hm'
  · cases hm'
  · rw [runtimeReset_meter, hm] at hm'
    cases hm'
    exact (Meter.Follows.refl m).base

/-- Settles O37: each effect of a command keeps the clock and the bases, and a reset, which clears the clock, is a restart's
effect or the pin's release. -/
theorem clockAndBaseTimesNeverDecrease : Obligations.ClockAndBaseTimesNeverDecrease := by
  unfold Obligations.ClockAndBaseTimesNeverDecrease
  refine ⟨fun s t clock e hc => ?_, fun s t ch m m' e hm hm' => ?_⟩
  · rcases step_cases e with rfl | ⟨c, rest, front, e⟩
    · exact .inl ⟨clock, hc, Nat.le_refl _⟩
    · rcases exec_effect e with effect | ⟨reset, l, rfl | rfl⟩
      · exact .inl (effect.clock clock hc)
      all_goals
        refine .inr ⟨rfl, rest, ?_⟩
        rcases reset with rfl | ⟨high, rfl⟩
        · exact .inl front
        · exact .inr ⟨high, front⟩
  · rcases step_cases e with rfl | ⟨c, rest, -, e⟩
    · cases hm.symm.trans hm'
      exact (Meter.Follows.refl m).base
    · exact exec_keepsBase e hm hm'

/-! ### The state right after reset -/

@[simp] theorem reset_zone (z : Nat) : State.reset.zone z = Zone.reset := rfl
@[simp] theorem reset_group (g : Nat) : State.reset.group g = Group.reset := rfl

theorem settingsOk_reset : SettingsOk State.reset := by
  have zone : Zone.reset.SettingsOk := by decide
  exact ⟨by decide, fun _ => zone, fun _ _ h => (nomatch h), fun _ h => (nomatch h)⟩

theorem nightState_reset (z : Nat) : nightState State.reset z = none := rfl

theorem closeOk_reset : CloseOk State.reset := by
  have queue : QueueOk State.reset := ⟨.nil, fun z => by rw [nightState_reset]; simp [State.reset], by simp [State.reset]⟩
  have engine : EngineOk State.reset :=
    ⟨by simp [State.reset], fun z => by rw [nightState_reset]; simp [State.reset], fun _ h => (nomatch h)⟩
  have life : Zone.reset.LifeOk := by simp [Zone.LifeOk, Zone.reset]
  exact ⟨queue, engine, fun _ => life, fun _ _ => rfl⟩

theorem judgeOk_reset : JudgeOk State.reset := by
  have zone : Zone.reset.JudgeOk := by simp [Zone.JudgeOk, Zone.reset, Judgement.reset, MonitorState.armed]
  exact fun _ => zone

theorem hitsOk_reset : HitsOk State.reset := ⟨fun _ => Nat.zero_le _, fun _ h => (nomatch h)⟩

theorem causesOk_reset : CausesOk State.reset := by
  have zone : Zone.reset.live.subset Zone.reset.held = true := by decide
  exact fun _ => zone

theorem membersOk_reset : MembersOk State.reset := by
  have group : Group.reset.members = [] := rfl
  refine ⟨fun g => by simp [group], fun z => ?_⟩
  simp [membershipCount, group]

theorem groupsOk_reset : GroupsOk State.reset := fun g _ => by simp [SignalsOk, Group.reset]

theorem noticesOk_reset : NoticesOk State.reset := ⟨Nat.zero_le _, .nil⟩

theorem linkOk_reset : LinkOk State.reset := ⟨Nat.zero_le _, fun _ h => (nomatch h), fun _ h => (nomatch h)⟩

/-- Settles O19: the reset state lists no record, holds no night and queues nothing. -/
theorem resetMeetsEveryInvariant : Obligations.ResetMeetsEveryInvariant := by
  unfold Obligations.ResetMeetsEveryInvariant
  exact ⟨tablesOk_reset, directoryOk_reset, attachOk_reset, settingsOk_reset, closeOk_reset, judgeOk_reset, hitsOk_reset,
    causesOk_reset, membersOk_reset, groupsOk_reset, noticesOk_reset, linkOk_reset⟩

end Sys2Proof.Machine
end

section
/-! SUPPORT. R16: what a clock mark does to the meters, and the notices of those it makes STALE. -/

namespace Sys2Proof.Machine

/-! ### Serving a request whose fields are read back -/

/-- A request of one number, from the bytes that carry it. -/
theorem parseNumber_putNat {w n : Nat} (h : n < 256 ^ w) : parseNumber w (putNat w n) = some n := by
  simp [parseNumber, getNat_putNat w n h]

/-- What a taken request answers, once its fields are known. -/
theorem serve_fields {α : Type} {kind tag : Byte} {payload : List Byte} {parse : List Byte → Option α}
    {owner : α → State → Answer} {s : State} {r : α} (takes : Takes s kind tag payload) (parsed : parse payload = some r) :
    serve kind tag payload (fun p s => withFields (parse p) s fun r => owner r s) s =
      .next ((owner r s.popIntake).state.replied kind tag (owner r s.popIntake).code (owner r s.popIntake).body) := by
  rw [serve_taken _ takes, parsed]
  rfl

/-! ### Night transitions leave the meters alone -/

theorem markZone_frame (clock : Nat) (s : State) (z : Nat) :
    { markZone clock s z with zones := s.zones, closeQueue := s.closeQueue } = s := by
  have moved : { s.updZone z fun zn => { zn with night := zn.night.map fun nt => nt.endWindow clock } with
      zones := s.zones, closeQueue := s.closeQueue } = s := rfl
  have queue (cause : CloseCause) (u : State) : { queueNight z cause u with zones := s.zones, closeQueue := s.closeQueue } =
      { u with zones := s.zones, closeQueue := s.closeQueue } := rfl
  unfold markZone
  dsimp only
  generalize (s.updZone z fun zn => { zn with night := zn.night.map fun nt => nt.endWindow clock }) = u at moved ⊢
  split
  · split
    · exact (queue _ u).trans moved
    · split
      · exact (queue _ u).trans moved
      · exact moved
  · exact moved

theorem foldl_markZone_frame (clock : Nat) (zs : List Nat) (s : State) :
    { zs.foldl (markZone clock) s with zones := s.zones, closeQueue := s.closeQueue } = s := by
  induction zs generalizing s with
  | nil => rfl
  | cons z rest ih =>
    have h := congrArg (fun u : State => { u with zones := s.zones, closeQueue := s.closeQueue }) (ih (markZone clock s z))
    exact h.trans (markZone_frame clock s z)

/-- R49: the night transitions change the zones and the close queue only. -/
theorem nightTransitions_frame (clock : Nat) (s : State) :
    { nightTransitions clock s with zones := s.zones, closeQueue := s.closeQueue } = s :=
  foldl_markZone_frame clock zoneNumbers s

/-! ### METER_STALE is queued, or the overflow marker set (R16, R177) -/

/-- A notice is queued, or the overflow marker says that one was dropped. -/
def Reported (s : State) (n : Notice) : Prop := s.link.overflow = true ∨ n ∈ s.link.notices

theorem Reported.raise_other {s : State} {n m : Notice} (h : Reported s m) (other : sameKey n m = false) :
    Reported (s.raise n) m := by
  rcases raise_cases s n with ⟨-, mark, queue⟩ | ⟨-, -, mark, queue⟩ | ⟨-, -, mark, -⟩
  · refine h.imp (mark ▸ ·) fun hm => ?_
    rw [queue]
    exact List.mem_map.mpr ⟨m, hm, by simp [other]⟩
  · refine h.imp (mark ▸ ·) fun hm => ?_
    rw [queue]
    exact List.mem_append_left _ hm
  · exact .inl mark

theorem Reported.raise_stale (s : State) (serial ch time : Nat) :
    Reported (s.raise (.meterStale serial ch time)) (.meterStale serial ch time) := by
  rcases raise_cases s (.meterStale serial ch time) with ⟨⟨m, hm, key⟩, -, queue⟩ | ⟨-, -, -, queue⟩ | ⟨-, -, mark, -⟩
  · refine .inr ?_
    rw [queue]
    exact List.mem_map.mpr ⟨m, hm, by rw [if_pos key]; cases m <;> rfl⟩
  · refine .inr ?_
    rw [queue]
    exact List.mem_append_right _ (List.mem_singleton.mpr rfl)
  · exact .inl mark

/-- The notice that a meter made STALE raises. -/
def staleNotice (m : Meter) (ch : Nat) : Notice := .meterStale m.serial ch ((m.base.map (·.time)).getD 0)

/-- R1: no serial is in two records. -/
abbrev SerialsApart (s : State) : Prop :=
  ∀ ch ch' m m', s.meter? ch = some m → s.meter? ch' = some m' → m.serial = m'.serial → ch = ch'

theorem DirectoryOk.serialsApart {s : State} (ok : DirectoryOk s) : SerialsApart s := by
  intro ch ch' m m' hm hm' same
  have one := (ok.2 m.serial ch).mpr ⟨m, hm, rfl⟩
  have two := (ok.2 m.serial ch').mpr ⟨m', hm', same.symm⟩
  exact Option.some.inj (one.symm.trans two)

/-- A record after some meter is made STALE: the same but for the state. -/
theorem makeStale_meter_some {s : State} {ch j : Nat} {m' : Meter} (h : (makeStale s ch).meter? j = some m') :
    ∃ m, s.meter? j = some m ∧ m'.serial = m.serial ∧ m'.base = m.base := by
  rw [makeStale_meter] at h
  split at h
  · next e =>
    obtain ⟨m, hm, rfl⟩ := Option.map_eq_some_iff.mp h
    exact ⟨m, e ▸ hm, rfl, rfl⟩
  · exact ⟨m', h, rfl, rfl⟩

theorem SerialsApart.makeStale {s : State} (apart : SerialsApart s) (ch : Nat) : SerialsApart (makeStale s ch) := by
  intro i j x y hx hy same
  obtain ⟨x₀, hx₀, sx, -⟩ := makeStale_meter_some hx
  obtain ⟨y₀, hy₀, sy, -⟩ := makeStale_meter_some hy
  exact apart i j x₀ y₀ hx₀ hy₀ (sx.symm.trans (same.trans sy))

theorem makeStale_reports {s : State} {ch : Nat} {m : Meter} (hm : s.meter? ch = some m) :
    Reported (makeStale s ch) (staleNotice m ch) := by
  unfold makeStale
  rw [hm]
  exact .raise_stale _ _ _ _

theorem Reported.makeStale {s : State} {ch j : Nat} {m : Meter} (apart : SerialsApart s) (hm : s.meter? j = some m)
    (h : Reported s (staleNotice m j)) : Reported (makeStale s ch) (staleNotice m j) := by
  by_cases e : j = ch
  · exact e ▸ makeStale_reports (e ▸ hm)
  · unfold Machine.makeStale
    cases hx : s.meter? ch with
    | none => exact h
    | some x =>
      have keys : x.serial ≠ m.serial := fun same => e (apart j ch m x hm hx same.symm)
      exact Reported.raise_other (s := s.setMeter ch _) h (by simp [sameKey, staleNotice, Notice.subject, keys])

/-- R16: every meter of the list is reported, whatever the order, for no two of their notices fall together. -/
theorem foldl_makeStale_reports (l : List Nat) {s : State} {j : Nat} {m : Meter} (apart : SerialsApart s)
    (hm : s.meter? j = some m) (h : j ∈ l ∨ Reported s (staleNotice m j)) :
    Reported (l.foldl makeStale s) (staleNotice m j) := by
  induction l generalizing s m with
  | nil => exact h.resolve_left (List.not_mem_nil)
  | cons ch rest ih =>
    have kept : ∃ m', (makeStale s ch).meter? j = some m' ∧ staleNotice m' j = staleNotice m j := by
      rw [makeStale_meter]
      split
      · next e => exact ⟨{ m with state := .stale }, by rw [← e, hm]; rfl, rfl⟩
      · exact ⟨m, hm, rfl⟩
    obtain ⟨m', hm', same⟩ := kept
    rw [← same]
    refine ih (apart.makeStale ch) hm' ?_
    rw [same]
    rcases h with h | h
    · rcases List.mem_cons.mp h with rfl | h
      · exact .inr (makeStale_reports hm)
      · exact .inl h
    · exact .inr (h.makeStale apart hm)

/-- R16: a lapsed meter is reported by the stale check. -/
theorem staleCheck_reports {s : State} (apart : SerialsApart s) {clock ch : Nat} {m : Meter}
    (hm : s.meter? ch = some m) (lapsed : m.lapsed s.settings.staleLimit clock = true) :
    Reported (staleCheck clock s) (staleNotice m ch) := by
  have listed : ch ∈ lapsedChannels s clock := (mem_lapsedChannels s clock ch).mpr ⟨m, Table.mem_of_find? hm, lapsed⟩
  have h := foldl_makeStale_reports (lapsedChannels s clock) apart hm (.inl listed)
  exact h

/-- R39: a mark that is not earlier than the clock is taken. -/
theorem exec_clockMark_taken {tag : Byte} {time : Nat} {s : State} (small : time < 2 ^ 32)
    (notBack : ∀ c ∈ s.clock, c ≤ time) (takes : Takes s 0x18 tag (putNat 4 time)) :
    ∃ body, exec (.clockMark tag (putNat 4 time)) s = .next ((takeMark time s.popIntake).replied 0x18 tag .ok body) := by
  have taken : markIsBack s.popIntake time = false := by
    unfold markIsBack
    split
    · next c hc => exact decide_eq_false (Nat.not_lt.mpr (notBack c hc))
    · rfl
  have answer : ∃ body, clockMarkAnswer time s.popIntake = okWith (takeMark time s.popIntake) body := by
    unfold clockMarkAnswer
    rw [taken]
    exact ⟨_, rfl⟩
  obtain ⟨body, answer⟩ := answer
  refine ⟨body, (serve_fields (owner := clockMarkAnswer) takes (parseNumber_putNat small)).trans ?_⟩
  rw [answer]
  rfl

/-- Settles O36: the night transitions leave the meters and the notices alone, and the stale check takes exactly the lapsed
meters. -/
theorem clockMarkMakesMetersStale : Obligations.ClockMarkMakesMetersStale := by
  unfold Obligations.ClockMarkMakesMetersStale
  intro tag time s small notBack takes rising ok
  dsimp only
  obtain ⟨body, marked⟩ := exec_clockMark_taken small notBack takes
  have frame := nightTransitions_frame time { s.popIntake with clock := some time }
  have meters := congrArg State.meters frame
  have serials := congrArg State.serials frame
  have settings := congrArg State.settings frame
  unfold takeMark at marked
  generalize nightTransitions time { s.popIntake with clock := some time } = u at marked meters serials settings
  have meters : u.meters = s.meters := meters
  have meter (ch : Nat) : u.meter? ch = s.meter? ch := congrArg (fun t => Table.find? t ch) meters
  have limit : u.settings.staleLimit = s.settings.staleLimit := congrArg PartSettings.staleLimit settings
  have apart : SerialsApart u := (ok.of_tables_eq meters serials).serialsApart
  have checked (ch : Nat) := staleCheck_meter (s := u) (meters ▸ rising) time ch
  refine ⟨_, marked, fun ch m hm stays => ?_, fun ch m hm lapses => ⟨?_, ?_⟩, fun ch hm => ?_⟩
  · rw [State.replied_meter, checked, meter, hm, Option.map_some, limit, if_neg (mt (m.lapsed_iff _ _).mp stays)]
  · rw [State.replied_meter, checked, meter, hm, Option.map_some, limit, if_pos ((m.lapsed_iff _ _).mpr lapses)]
  · have reported := staleCheck_reports apart ((meter ch).trans hm) (limit ▸ (m.lapsed_iff _ _).mpr lapses)
    refine reported.imp id fun queued b hb => ?_
    have hb : m.base = some b := hb
    simpa [staleNotice, hb] using queued
  · rw [State.replied_meter, checked, meter, hm]
    rfl

end Sys2Proof.Machine
end

section
/-! SUPPORT. Reading a row of fields: a field is passed over, or it is the one read. And the requests of the directory and the
reads, read back from their bytes. -/

namespace Sys2Proof.Machine

/-! ### A row of fields -/

theorem slice_skip (a b : List Byte) {at' : Nat} (w : Nat) (h : a.length ≤ at') :
    slice (a ++ b) at' w = slice b (at' - a.length) w := by
  simp [slice, List.drop_append, List.drop_eq_nil_of_le h]

theorem slice_head (a b : List Byte) {w : Nat} (h : a.length = w) : slice (a ++ b) 0 w = a := by
  subst h
  simp [slice]

@[simp] theorem slice_skip_putNat (w' n : Nat) (b : List Byte) {at' : Nat} (w : Nat) (h : w' ≤ at') :
    slice (putNat w' n ++ b) at' w = slice b (at' - w') w := by
  rw [slice_skip _ _ _ (by simpa using h), putNat_length]

@[simp] theorem slice_skip_putInt (w' : Nat) (i : Int) (b : List Byte) {at' : Nat} (w : Nat) (h : w' ≤ at') :
    slice (putInt w' i ++ b) at' w = slice b (at' - w') w := slice_skip_putNat _ _ _ _ h

@[simp] theorem slice_skip_putBool (x : Bool) (b : List Byte) {at' : Nat} (w : Nat) (h : 1 ≤ at') :
    slice (putBool x ++ b) at' w = slice b (at' - 1) w := slice_skip_putNat _ _ _ _ h

theorem slice_skip_putOption (w' : Nat) (part : Option (List Byte)) (b : List Byte) {at' : Nat} (w : Nat)
    (len : ∀ p ∈ part, p.length = w') (h : w' + 1 ≤ at') :
    slice (putOption w' part ++ b) at' w = slice b (at' - (w' + 1)) w := by
  rw [slice_skip _ _ _ (by simpa [putOption_length w' part len] using h), putOption_length w' part len]

@[simp] theorem slice_skip_putOptNat (w' : Nat) (n : Option Nat) (b : List Byte) {at' : Nat} (w : Nat) (h : w' + 1 ≤ at') :
    slice (putOptNat w' n ++ b) at' w = slice b (at' - (w' + 1)) w :=
  slice_skip_putOption _ _ _ _ (by cases n <;> simp) h

@[simp] theorem slice_skip_putOptInt (w' : Nat) (i : Option Int) (b : List Byte) {at' : Nat} (w : Nat) (h : w' + 1 ≤ at') :
    slice (putOptInt w' i ++ b) at' w = slice b (at' - (w' + 1)) w :=
  slice_skip_putOption _ _ _ _ (by cases i <;> simp) h

@[simp] theorem slice_putNat_append (w n : Nat) (b : List Byte) : slice (putNat w n ++ b) 0 w = putNat w n :=
  slice_head _ _ (putNat_length w n)

@[simp] theorem optionAt_putOptNat_head {w : Nat} {n : Option Nat} (b : List Byte) (h : ∀ v ∈ n, v < 256 ^ w) :
    optionAt (putOptNat w n ++ b) 0 w = some n := optionAt_putOptNat [] b 0 w n rfl h

theorem fieldAt_skip (a b : List Byte) {at' : Nat} (w : Nat) (h : a.length ≤ at') :
    fieldAt (a ++ b) at' w = fieldAt b (at' - a.length) w := congrArg getNat (slice_skip a b w h)

theorem optionAt_skip (a b : List Byte) {at' : Nat} (w : Nat) (h : a.length ≤ at') :
    optionAt (a ++ b) at' w = optionAt b (at' - a.length) w := by
  have next : at' + 1 - a.length = at' - a.length + 1 := by omega
  simp only [optionAt, presenceAt, fieldAt_skip a b _ h, fieldAt_skip a b _ (Nat.le_succ_of_le h), next]

@[simp] theorem optionAt_skip_putNat (w' n : Nat) (b : List Byte) {at' : Nat} (w : Nat) (h : w' ≤ at') :
    optionAt (putNat w' n ++ b) at' w = optionAt b (at' - w') w := by
  rw [optionAt_skip _ _ _ (by simpa using h), putNat_length]

@[simp] theorem optionAt_skip_putOptNat (w' : Nat) (n : Option Nat) (b : List Byte) {at' : Nat} (w : Nat) (h : w' + 1 ≤ at') :
    optionAt (putOptNat w' n ++ b) at' w = optionAt b (at' - (w' + 1)) w := by
  rw [optionAt_skip _ _ _ (by simpa using h), putOptNat_length]

@[simp] theorem getNat_putNat_self {w n : Nat} (h : n < 256 ^ w) : getNat (putNat w n) = n := getNat_putNat w n h

@[simp] theorem slice_putNat (w n : Nat) : slice (putNat w n) 0 w = putNat w n := by
  simpa using slice_head (putNat w n) [] (putNat_length w n)

@[simp] theorem optionAt_putOptNat_last {w : Nat} {n : Option Nat} (h : ∀ v ∈ n, v < 256 ^ w) :
    optionAt (putOptNat w n) 0 w = some n := by
  simpa using optionAt_putOptNat_head [] h

/-! ### Requests read back -/

theorem parseAddMeter_put {r : AddMeterReq} (serial : r.serial < 2 ^ 32) (spec : r.spec.Fits) :
    parseAddMeter (putAddMeter r) = some r := by
  obtain ⟨kind, flow, unit, digits, qmax⟩ := spec
  simp (disch := omega) [parseAddMeter, putAddMeter, putSpec, specAt, fieldAt]

theorem parseAttach_put {r : AttachReq} (serial : r.serial < 2 ^ 32) (fromZone : r.fromZone < 256) (toZone : r.toZone < 256) :
    parseAttach (putAttach r) = some r := by
  simp (disch := omega) [parseAttach, putAttach, fieldAt]

theorem parseReplace_put {r : ReplaceReq} (fits : r.Fits) : parseReplace (putReplace r) = some r := by
  obtain ⟨serial, newSerial, ⟨kind, flow, unit, digits, qmax⟩, time, forward, reverse, sequence⟩ := fits
  simp (disch := first | omega | assumption) [parseReplace, putReplace, putSpec, specAt, fieldAt]

theorem parseMeterRead_put {r : MeterReadReq} (selector : r.selector < 256) (key : r.key < 2 ^ 32) :
    parseMeterRead (putMeterRead r) = some r := by
  simp (disch := omega) [parseMeterRead, putMeterRead, fieldAt]

theorem parseHistoryRead_put {r : HistoryReadReq} (zone : r.zone < 256) (first' : r.first < 256) (count : r.count < 256) :
    parseHistoryRead (putHistoryRead r) = some r := by
  simp (disch := omega) [parseHistoryRead, putHistoryRead, fieldAt]

end Sys2Proof.Machine
end

section
/-! SUPPORT. The commands of the directory (Chapter 1): what their checks name, and what each does. -/

namespace Sys2Proof.Machine

/-! ### Field checks -/

theorem unitOk_iff (n : Nat) : unitOk n = true ↔ n = 1 ∨ n = 10 ∨ n = 100 ∨ n = 1000 ∨ n = 10000 := by
  simp [unitOk]

theorem digitsInRange_iff (n : Nat) : digitsInRange n = true ↔ n = 0 ∨ (4 ≤ n ∧ n ≤ 10) := by simp [digitsInRange]

theorem qmaxOk_iff (n : Nat) : qmaxOk n = true ↔ 1 ≤ n ∧ n ≤ 2000000 := by simp [qmaxOk]

theorem flowFits_iff {kind flow : Nat} (h : kind ≤ 1) : flowFits kind flow = true ↔ (kind = 1 → flow = 0) := by
  simp only [flowFits, Bool.or_eq_true, decide_eq_true_eq]
  omega

theorem digitsFit_iff {kind digits : Nat} (h : kind ≤ 1) :
    digitsFit kind digits = true ↔ (kind = 0 → 4 ≤ digits ∧ digits ≤ 10) ∧ (kind = 1 → digits = 0) := by
  unfold digitsFit
  split <;> simp <;> omega

/-- Checks that come one after another in field order, each `ok` where the earlier ones are: the first that fails names its
field. -/
theorem firstFault_names {ok : Nat → Prop} {l : List (Nat × Bool)} (rest : List (Nat × Bool)) {n : Nat}
    (checks : ∀ e ∈ l, (∀ k < e.1, ok k) → (e.2 = true ↔ ok e.1)) (order : l.Pairwise fun a b => a.1 < b.1)
    (listed : n ∈ l.map (·.1)) (before : ∀ k < n, ok k) (bad : ¬ ok n) : firstFault (l ++ rest) = some n := by
  induction l with
  | nil => cases listed
  | cons e tail ih =>
    obtain ⟨field, good⟩ := e
    obtain ⟨above, order⟩ := List.pairwise_cons.mp order
    have check := checks (field, good) (by simp)
    rw [List.map_cons, List.mem_cons] at listed
    rcases listed with here | later
    · have fails : good = false := by
        subst here
        exact Bool.not_eq_true _ ▸ mt (check before).mp bad
      simp [firstFault, fails, here]
    · have below : field < n := by
        obtain ⟨e, he, rfl⟩ := List.mem_map.mp later
        exact above e he
      have passes : good = true := (check fun k hk => before k (hk.trans below)).mpr (before field below)
      simpa [firstFault, passes] using ih (fun e he => checks e (by simp [he])) order later

theorem firstFault_append {l : List (Nat × Bool)} (h : ∀ e ∈ l, e.2 = true) (rest : List (Nat × Bool)) :
    firstFault (l ++ rest) = firstFault rest := by
  induction l with
  | nil => rfl
  | cons e tail ih =>
    obtain ⟨field, good⟩ := e
    have passes : good = true := h (field, good) (by simp)
    simpa [firstFault, passes] using ih fun e he => h e (by simp [he])

/-- R8: the range checks of ADD_METER, in field order. -/
def addMeterRanges (r : AddMeterReq) : List (Nat × Bool) :=
  [(1, serialOk r.serial), (2, decide (r.spec.kind ≤ 1)), (3, decide (r.spec.flow ≤ 1)), (4, unitOk r.spec.unit),
    (5, digitsInRange r.spec.digits), (6, qmaxOk r.spec.qmax)]

theorem addMeterFault_eq (r : AddMeterReq) :
    addMeterFault r = firstFault (addMeterRanges r ++
      [(3, flowFits r.spec.kind r.spec.flow), (5, digitsFit r.spec.kind r.spec.digits)]) := rfl

theorem addMeterRanges_iff (r : AddMeterReq) : ∀ e ∈ addMeterRanges r, (e.2 = true ↔ r.FieldInRange e.1) := by
  simp only [addMeterRanges, List.forall_mem_cons]
  exact ⟨serialOk_iff _, decide_eq_true_iff, decide_eq_true_iff, unitOk_iff _, digitsInRange_iff _, qmaxOk_iff _,
    fun _ h => nomatch h⟩

theorem addMeterFault_range {r : AddMeterReq} {n : Nat} (low : 1 ≤ n) (high : n ≤ 6) (before : ∀ k < n, r.FieldInRange k)
    (bad : ¬ r.FieldInRange n) : addMeterFault r = some n := by
  rw [addMeterFault_eq]
  refine firstFault_names _ (fun e he _ => addMeterRanges_iff r e he) (by simp [addMeterRanges]) ?_ before bad
  simp [addMeterRanges]
  omega

/-- R8, log 13: with every field in its range, the cross-field checks decide. -/
theorem addMeterFault_cross {r : AddMeterReq} (ranges : ∀ k, r.FieldInRange k) :
    addMeterFault r =
      firstFault [(3, flowFits r.spec.kind r.spec.flow), (5, digitsFit r.spec.kind r.spec.digits)] :=
  firstFault_append (fun e he => (addMeterRanges_iff r e he).mpr (ranges e.1)) _

theorem addMeterFault_none {r : AddMeterReq} (serial : SerialValid r.serial) (spec : r.spec.Valid) :
    addMeterFault r = none := by
  obtain ⟨kind, flow, oneWay, unit, register, pulse, qmax⟩ := spec
  have ranges (k : Nat) : r.FieldInRange k := by
    unfold AddMeterReq.FieldInRange
    split
    · exact serial
    · exact kind
    · exact flow
    · exact unit
    · omega
    · exact qmax
    · trivial
  rw [addMeterFault_cross ranges]
  simp [firstFault, (flowFits_iff kind).mpr oneWay, (digitsFit_iff kind).mpr ⟨register, pulse⟩]

theorem MeterSpec.Valid.fits {d : MeterSpec} (h : d.Valid) : d.Fits := by
  obtain ⟨kind, flow, -, unit, register, pulse, -, qmax⟩ := h
  refine ⟨by omega, by omega, by omega, ?_, by omega⟩
  by_cases k : d.kind = 0
  · have := register k
    omega
  · have := pulse (by omega)
    omega

/-- What a taken request answers, from its owner's answer. -/
theorem serve_answer {α : Type} {kind tag : Byte} {payload : List Byte} {parse : List Byte → Option α}
    {owner : α → State → Answer} {s : State} {r : α} {a : Answer} (takes : Takes s kind tag payload)
    (parsed : parse payload = some r) (answer : owner r s.popIntake = a) :
    serve kind tag payload (fun p s => withFields (parse p) s fun r => owner r s) s =
      .next (a.state.replied kind tag a.code a.body) := by
  rw [serve_fields takes parsed, answer]

/-! ### ADD_METER (R8) -/

theorem newMeter_eq (r : AddMeterReq) : newMeter r =
    { serial := r.serial
      kind := if r.spec.kind = 0 then .register else .pulse
      flow := if r.spec.flow = 0 then .oneWay else .twoWay
      unit := r.spec.unit
      digits := if r.spec.kind = 0 then some r.spec.digits else none
      qmax := r.spec.qmax
      fromZone := 0
      toZone := 0
      state := .unbased
      base := none
      lastFault := none
      fromCover := none
      toCover := none } := rfl

/-- Settles O21. -/
theorem addMeterCreatesRecord : Obligations.AddMeterCreatesRecord := by
  unfold Obligations.AddMeterCreatesRecord
  intro tag r s serial spec unmapped room takes
  obtain ⟨low, free, least⟩ := lowestFree_spec room
  refine ⟨lowestFree s, low, free, least, ?_⟩
  have answer : addMeterAnswer r s.popIntake =
      okWith ((s.popIntake.setMeter (lowestFree s) (newMeter r)).mapSerial r.serial (lowestFree s))
        (putNat 2 (lowestFree s)) := by
    have known : s.popIntake.channelOf r.serial = none := unmapped
    have below : ¬ Config.channelCount ≤ s.popIntake.meters.length := Nat.not_le.mpr room
    unfold addMeterAnswer
    simp only [addMeterFault_none serial spec, known, below, Option.isSome_none, Bool.false_eq_true, if_false]
    rfl
  exact serve_answer takes (parseAddMeter_put (by omega) spec.fits) answer

/-! ### REPLACE_METER (R12, R13) -/

/-- R12 step 1: the checks of REPLACE_METER, in field order. -/
def replaceChecks (r : ReplaceReq) : List (Nat × Bool) :=
  [(1, serialOk r.serial), (2, (r.newSerial.map serialOk).getD true), (3, decide (r.spec.kind ≤ 1)),
    (4, decide (r.spec.flow ≤ 1) && flowFits r.spec.kind r.spec.flow), (5, unitOk r.spec.unit),
    (6, digitsFit r.spec.kind r.spec.digits), (7, qmaxOk r.spec.qmax), (8, decide (r.time ≤ 4294967295)),
    (9, forwardFits r.spec r.forward), (10, reverseFits r.spec r.reverse), (11, sequenceFits r.spec r.sequence)]

theorem newSerialOk_iff (n : Option Nat) : (n.map serialOk).getD true = true ↔ ∀ v ∈ n, SerialValid v := by
  cases n <;> simp [serialOk_iff]

theorem forwardFits_iff {d : MeterSpec} (kind : d.kind ≤ 1) (v : Nat) :
    forwardFits d v = true ↔ (d.kind = 0 → v < 10 ^ d.digits) ∧ (d.kind = 1 → v ≤ 65535) := by
  unfold forwardFits modulusOf
  rcases Nat.le_one_iff_eq_zero_or_eq_one.mp kind with k | k <;> simp [k]

theorem reverseFits_iff {d : MeterSpec} (flow : d.flow ≤ 1) (v : Option Nat) :
    reverseFits d v = true ↔ (d.flow = 0 → v = none) ∧ (d.flow = 1 → ∃ i ∈ v, i < 10 ^ d.digits) := by
  unfold reverseFits modulusOf
  rcases Nat.le_one_iff_eq_zero_or_eq_one.mp flow with f | f <;> cases v <;> simp [f]

theorem sequenceFits_iff {d : MeterSpec} (kind : d.kind ≤ 1) {q : Option Nat} (small : ∀ n ∈ q, n < 256) :
    sequenceFits d q = true ↔ (d.kind = 0 → q = none) ∧ (d.kind = 1 → q ≠ none) := by
  unfold sequenceFits
  rcases Nat.le_one_iff_eq_zero_or_eq_one.mp kind with k | k
  · cases q <;> simp [k]
  · cases q with
    | none => simp [k]
    | some n =>
      have := small n rfl
      simp [k]
      omega

theorem replaceChecks_iff {r : ReplaceReq} (fits : r.Fits) :
    ∀ e ∈ replaceChecks r, (∀ k < e.1, r.FieldOk k) → (e.2 = true ↔ r.FieldOk e.1) := by
  obtain ⟨-, -, -, time, -, -, sequence⟩ := fits
  simp only [replaceChecks, List.forall_mem_cons]
  refine ⟨fun _ => serialOk_iff _, fun _ => newSerialOk_iff _, fun _ => decide_eq_true_iff, fun ok => ?_, fun _ => unitOk_iff _,
    fun ok => digitsFit_iff (ok 3 (by decide)), fun _ => qmaxOk_iff _, fun _ => ?_,
    fun ok => forwardFits_iff (ok 3 (by decide)) _, fun ok => reverseFits_iff (ok 4 (by decide)).1 _,
    fun ok => sequenceFits_iff (ok 3 (by decide)) sequence, fun _ h => nomatch h⟩
  · have kind : r.spec.kind ≤ 1 := ok 3 (by decide)
    exact (Bool.and_eq_true_iff).trans (and_congr decide_eq_true_iff (flowFits_iff kind))
  · exact iff_of_true (decide_eq_true (Nat.le_of_lt_succ time)) trivial

theorem replaceFault_names {r : ReplaceReq} (fits : r.Fits) {n : Nat} (low : 1 ≤ n) (high : n ≤ 11)
    (before : ∀ k < n, r.FieldOk k) (bad : ¬ r.FieldOk n) : replaceFault r = some n := by
  refine firstFault_names [] (replaceChecks_iff fits) (by simp [replaceChecks]) ?_ before bad
  simp [replaceChecks]
  omega

theorem replaceFault_passes {r : ReplaceReq} (fits : r.Fits) (ok : ∀ k, r.FieldOk k) : replaceFault r = none :=
  (firstFault_none_iff (replaceChecks r)).mpr fun e he => (replaceChecks_iff fits e he fun k _ => ok k).mpr (ok e.1)

@[simp] theorem popIntake_meterBySerial (s : State) (n : Nat) : s.popIntake.meterBySerial n = s.meterBySerial n := rfl

theorem serialTaken_iff (s : State) (r : ReplaceReq) :
    serialTaken s r = true ↔ ∃ n ∈ r.newSerial, n ≠ r.serial ∧ s.channelOf n ≠ none := by
  unfold serialTaken
  cases r.newSerial <;> simp [Option.isSome_iff_ne_none]

theorem beforeBase_iff (m : Meter) (time : Nat) : beforeBase m time = true ↔ ∃ b ∈ m.base, time < b.time := by
  unfold beforeBase
  cases m.base <;> simp

theorem inFuture_iff (s : State) (time : Nat) :
    inFuture s time = true ↔ ∃ c ∈ s.clock, c + s.settings.skew < time := by
  unfold inFuture
  cases s.clock <;> simp

/-- R6: the base of a replacement, by the coded kind and flow. -/
theorem baseFor_coded (kind flow time forward : Nat) (reverse sequence : Option Nat) :
    baseFor (kindOf kind) (flowOf flow) time forward reverse sequence =
      { time := time
        forward := if kind = 0 then some forward else none
        reverse := if flow = 0 then none else reverse
        sequence := if kind = 0 then none else sequence } := by
  unfold baseFor kindOf flowOf
  split_ifs <;> rfl

/-- Settles O25. -/
theorem replaceMeterSetsBase : Obligations.ReplaceMeterSetsBase := by
  unfold Obligations.ReplaceMeterSetsBase
  intro tag r ch m s serial newSerial spec time register pulse oneWay twoWay noSequence withSequence found untaken notBefore
    notFuture takes
  have specFits := spec.fits
  obtain ⟨kind, flow, apart, unit, digits, noDigits, qmax⟩ := spec
  have smallForward : r.forward < 2 ^ 40 := by
    rcases Nat.le_one_iff_eq_zero_or_eq_one.mp kind with k | k
    · calc r.forward < 10 ^ r.spec.digits := register k
        _ ≤ 10 ^ 10 := Nat.pow_le_pow_right (by decide) (digits k).2
        _ < 2 ^ 40 := by decide
    · have := pulse k
      omega
  have smallReverse : ∀ v ∈ r.reverse, v < 2 ^ 40 := by
    rcases Nat.le_one_iff_eq_zero_or_eq_one.mp flow with f | f
    · simp [oneWay f]
    · obtain ⟨v, hv, below⟩ := twoWay f
      have k : r.spec.kind = 0 := by omega
      have top : 10 ^ r.spec.digits ≤ 10 ^ 10 := Nat.pow_le_pow_right (by decide) (digits k).2
      simp only [hv, Option.mem_def, Option.some.injEq, forall_eq']
      omega
  have smallSequence : ∀ q ∈ r.sequence, q < 256 := by
    rcases Nat.le_one_iff_eq_zero_or_eq_one.mp kind with k | k
    · simp [noSequence k]
    · obtain ⟨q, hq, below⟩ := withSequence k
      simp only [hq, Option.mem_def, Option.some.injEq, forall_eq']
      omega
  have fits : r.Fits :=
    ⟨by omega, fun n hn => by have := newSerial n hn; omega, specFits, time, smallForward, smallReverse, smallSequence⟩
  have ok (k : Nat) : r.FieldOk k := by
    unfold ReplaceReq.FieldOk
    split
    · exact serial
    · exact newSerial
    · exact kind
    · exact ⟨flow, apart⟩
    · exact unit
    · exact ⟨digits, noDigits⟩
    · exact qmax
    · exact ⟨register, pulse⟩
    · exact ⟨oneWay, twoWay⟩
    · exact ⟨noSequence, fun k => by obtain ⟨q, hq, -⟩ := withSequence k; simp [hq]⟩
    · trivial
  have notTaken : serialTaken s.popIntake r = false := by
    refine Bool.eq_false_iff.mpr (mt (serialTaken_iff _ r).mp ?_)
    rintro ⟨n, hn, other, held⟩
    exact held (untaken n hn other)
  have notEarly : beforeBase m r.time = false := by
    refine Bool.eq_false_iff.mpr (mt (beforeBase_iff m r.time).mp ?_)
    rintro ⟨b, hb, early⟩
    have := notBefore b hb
    omega
  have notLate : inFuture s.popIntake r.time = false := by
    refine Bool.eq_false_iff.mpr (mt (inFuture_iff _ r.time).mp ?_)
    rintro ⟨c, hc, late⟩
    exact Nat.not_lt.mpr (notFuture c hc) late
  have answer : replaceAnswer r s.popIntake =
      okWith (((s.popIntake.unmapSerial r.serial).mapSerial (r.newSerial.getD r.serial) ch).setMeter ch (replacedMeter m r))
        [] := by
    unfold replaceAnswer
    simp [replaceFault_passes fits ok, found, notTaken, notEarly, notLate]
  refine (serve_answer takes (parseReplace_put fits) answer).trans ?_
  simp only [replacedMeter, baseFor_coded]
  rfl

/-! ### ATTACH_METER and REMOVE_METER (R9 to R11) -/

theorem attachFault_passes {r : AttachReq} (serial : SerialValid r.serial) (fromZone : r.fromZone < 256)
    (toZone : r.toZone < 256) (apart : r.Apart) : attachFault r = none := by
  have differ : r.fromZone ≠ r.toZone ∨ r.fromZone = 0 := by
    by_cases h : r.fromZone = r.toZone
    · exact .inr (apart h)
    · exact .inl h
  refine (firstFault_none_iff _).mpr ?_
  simp only [List.forall_mem_cons, serialOk_iff, decide_eq_true_eq, Bool.or_eq_true]
  exact ⟨serial, by omega, by omega, differ, fun _ h => nomatch h⟩

theorem any_zoneActive_iff (s : State) (zs : List Nat) :
    zs.any (zoneActive s) = true ↔ ∃ z ∈ zs, z ≠ 0 ∧ (s.zone z).monitor ≠ .standby := by
  simp [zoneActive]

theorem any_zoneActive_false {s : State} {zs : List Nat} (h : ∀ z ∈ zs, z ≠ 0 → (s.zone z).monitor = .standby) :
    zs.any (zoneActive s) = false := by
  refine Bool.eq_false_iff.mpr (mt (any_zoneActive_iff s zs).mp ?_)
  rintro ⟨z, hz, inside, active⟩
  exact active (h z hz inside)

/-- R9 step 4: a zone of the request whose list, without the meter, is full. -/
theorem attachFull_iff_length {ch : Nat} {m : Meter} {r : AttachReq} {s : State} (ok : AttachOk s) (apart : r.Apart)
    (hm : s.meter? ch = some m) : attachFull ch m r s = true ↔
      ∃ z ∈ [r.fromZone, r.toZone], z ≠ 0 ∧ 48 ≤ ((s.zone z).attach.filter fun e => decide (e.channel ≠ ch)).length := by
  rw [attachFull_iff]
  refine exists_congr fun z => and_congr_right fun hz => and_congr_right fun inside => ?_
  have named : z = r.fromZone ∨ z = r.toZone := by simpa using hz
  rw [relistMeter_zone r ok hm inside, length_relisted apart inside, if_pos named]
  exact Nat.lt_succ_iff

theorem detachMeter_eq (ch : Nat) (m : Meter) (s : State) :
    detachMeter ch m s = { s with zones := (detachMeter ch m s).zones } :=
  congrArg (fun u : State => { u with zones := (detachMeter ch m s).zones }) (detachMeter_frame ch m s)

theorem relistMeter_eq (ch : Nat) (m : Meter) (r : AttachReq) (s : State) :
    relistMeter ch m r s = { s with zones := (relistMeter ch m r s).zones } :=
  congrArg (fun u : State => { u with zones := (relistMeter ch m r s).zones }) (relistMeter_frame ch m r s)

/-- Settles O23. -/
theorem attachMeterPlacesMeter : Obligations.AttachMeterPlacesMeter := by
  unfold Obligations.AttachMeterPlacesMeter
  intro tag r ch m s ok serial fromZone toZone apart found idle room takes
  have hm : s.popIntake.meter? ch = some m := (State.meterBySerial_some found).2
  have fits : attachFull ch m r s.popIntake = false := by
    refine Bool.eq_false_iff.mpr (mt (attachFull_iff_length (s := s.popIntake) ok apart hm).mp ?_)
    rintro ⟨z, hz, inside, full⟩
    exact Nat.not_lt.mpr full (room z hz inside)
  have answer : attachAnswer r s.popIntake =
      okWith ((relistMeter ch m r s.popIntake).setMeter ch (m.attachTo r.fromZone r.toZone)) [] := by
    unfold attachAnswer
    have quiet := any_zoneActive_false (s := s.popIntake) idle
    simp only [attachFault_passes serial fromZone toZone apart, popIntake_meterBySerial, found, quiet, fits,
      Bool.false_eq_true, if_false]
  refine ⟨(relistMeter ch m r s.popIntake).zones, ?_, fun z hz => ?_⟩
  · refine (serve_answer takes (parseAttach_put (by omega) fromZone toZone) answer).trans ?_
    rw [relistMeter_eq]
    rfl
  · have zone := relistMeter_zone r (s := s.popIntake) ok hm hz
    exact ⟨_, zone, relisted_sorted apart hz (ok.2.1 z).1, fun e => mem_relisted⟩

/-- Settles O24. -/
theorem removeMeterFreesChannel : Obligations.RemoveMeterFreesChannel := by
  unfold Obligations.RemoveMeterFreesChannel
  intro tag serial ch m s ok valid found idle takes
  have hm : s.popIntake.meter? ch = some m := (State.meterBySerial_some found).2
  have answer : removeMeterAnswer serial s.popIntake = okWith ((detachMeter ch m s.popIntake).dropMeter ch serial) [] := by
    unfold removeMeterAnswer
    have quiet := any_zoneActive_false (s := s.popIntake) idle
    simp only [(serialOk_iff serial).mpr valid, popIntake_meterBySerial, found, quiet, Bool.not_true, Bool.false_eq_true,
      if_false]
  refine ⟨(detachMeter ch m s.popIntake).zones, ?_, fun z hz => detachMeter_zone (s := s.popIntake) ok hm hz⟩
  refine (serve_answer (owner := removeMeterAnswer) takes (parseNumber_putNat (by omega)) answer).trans ?_
  rw [detachMeter_eq]
  rfl

/-! ### The refusals (R8, R9, R11, R12) -/

theorem addMeterAnswer_fault {r : AddMeterReq} {n : Nat} (h : addMeterFault r = some n) (s : State) :
    addMeterAnswer r s = badField s n := by
  unfold addMeterAnswer
  rw [h]

theorem attachAnswer_fault {r : AttachReq} {n : Nat} (h : attachFault r = some n) (s : State) :
    attachAnswer r s = badField s n := by
  unfold attachAnswer
  rw [h]

theorem replaceAnswer_fault {r : ReplaceReq} {n : Nat} (h : replaceFault r = some n) (s : State) :
    replaceAnswer r s = badField s n := by
  unfold replaceAnswer
  rw [h]

theorem addMeterAnswer_present {r : AddMeterReq} {s : State} (passes : addMeterFault r = none)
    (mapped : s.channelOf r.serial ≠ none) : addMeterAnswer r s = refuse s .alreadyPresent := by
  unfold addMeterAnswer
  rw [passes]
  exact if_pos (Option.isSome_iff_ne_none.mpr mapped)

theorem addMeterAnswer_full {r : AddMeterReq} {s : State} (passes : addMeterFault r = none)
    (unmapped : s.channelOf r.serial = none) (full : 2048 ≤ s.meters.length) :
    addMeterAnswer r s = refuse s .directoryFull := by
  unfold addMeterAnswer
  simp only [passes, unmapped, Option.isSome_none, Bool.false_eq_true, if_false]
  exact if_pos full

theorem attachFault_serial {r : AttachReq} (bad : ¬ SerialValid r.serial) : attachFault r = some 1 := by
  have fails : serialOk r.serial = false := Bool.eq_false_iff.mpr (mt (serialOk_iff _).mp bad)
  simp [attachFault, firstFault, fails]

theorem attachFault_same {r : AttachReq} (serial : SerialValid r.serial) (toZone : r.toZone < 256)
    (same : r.fromZone = r.toZone) (inside : r.fromZone ≠ 0) : attachFault r = some 3 := by
  have passes := (serialOk_iff _).mpr serial
  have low : r.toZone ≤ 255 := by omega
  have nonzero : r.toZone ≠ 0 := same ▸ inside
  simp [attachFault, firstFault, passes, same, low, nonzero]

theorem attachAnswer_unknown {r : AttachReq} {s : State} (passes : attachFault r = none)
    (unknown : s.meterBySerial r.serial = none) : attachAnswer r s = refuse s .unknownMeter := by
  unfold attachAnswer
  rw [passes]
  dsimp only
  rw [unknown]

theorem attachAnswer_active {r : AttachReq} {s : State} {ch : Nat} {m : Meter} (passes : attachFault r = none)
    (found : s.meterBySerial r.serial = some (ch, m))
    (active : ∃ z ∈ [m.fromZone, m.toZone, r.fromZone, r.toZone], z ≠ 0 ∧ (s.zone z).monitor ≠ .standby) :
    attachAnswer r s = refuse s .zoneActive := by
  unfold attachAnswer
  rw [passes]
  dsimp only
  rw [found]
  exact if_pos ((any_zoneActive_iff s _).mpr active)

theorem attachAnswer_full {r : AttachReq} {s : State} {ch : Nat} {m : Meter} (passes : attachFault r = none)
    (found : s.meterBySerial r.serial = some (ch, m))
    (idle : ∀ z ∈ [m.fromZone, m.toZone, r.fromZone, r.toZone], z ≠ 0 → (s.zone z).monitor = .standby)
    (full : attachFull ch m r s = true) : attachAnswer r s = refuse s .attachFull := by
  unfold attachAnswer
  rw [passes]
  dsimp only
  rw [found]
  dsimp only
  rw [any_zoneActive_false idle]
  exact if_pos full

theorem removeMeterAnswer_serial {serial : Nat} (bad : ¬ SerialValid serial) (s : State) :
    removeMeterAnswer serial s = badField s 1 := by
  have fails : serialOk serial = false := Bool.eq_false_iff.mpr (mt (serialOk_iff _).mp bad)
  simp [removeMeterAnswer, fails]

theorem removeMeterAnswer_unknown {serial : Nat} {s : State} (valid : SerialValid serial)
    (unknown : s.meterBySerial serial = none) : removeMeterAnswer serial s = refuse s .unknownMeter := by
  simp [removeMeterAnswer, (serialOk_iff serial).mpr valid, unknown]

theorem removeMeterAnswer_active {serial : Nat} {s : State} {ch : Nat} {m : Meter} (valid : SerialValid serial)
    (found : s.meterBySerial serial = some (ch, m))
    (active : ∃ z ∈ [m.fromZone, m.toZone], z ≠ 0 ∧ (s.zone z).monitor ≠ .standby) :
    removeMeterAnswer serial s = refuse s .zoneActive := by
  unfold removeMeterAnswer
  rw [(serialOk_iff serial).mpr valid, found]
  exact if_pos ((any_zoneActive_iff s _).mpr active)

theorem replaceAnswer_unknown {r : ReplaceReq} {s : State} (passes : replaceFault r = none)
    (unknown : s.meterBySerial r.serial = none) : replaceAnswer r s = refuse s .unknownMeter := by
  unfold replaceAnswer
  rw [passes]
  dsimp only
  rw [unknown]

/-- R12 steps 3 to 5, for a REPLACE_METER whose fields pass and whose meter is known. -/
theorem replaceAnswer_found {r : ReplaceReq} {s : State} {ch : Nat} {m : Meter} (passes : replaceFault r = none)
    (found : s.meterBySerial r.serial = some (ch, m)) :
    (serialTaken s r = true → replaceAnswer r s = refuse s .alreadyPresent) ∧
      (serialTaken s r = false → beforeBase m r.time = true → replaceAnswer r s = refuse s .outOfOrder) ∧
      (serialTaken s r = false → beforeBase m r.time = false → inFuture s r.time = true →
        replaceAnswer r s = refuse s .futureTime) := by
  unfold replaceAnswer
  rw [passes]
  dsimp only
  rw [found]
  dsimp only
  refine ⟨fun taken => if_pos taken, fun free early => ?_, fun free onTime late => ?_⟩
  · rw [free, early]
    rfl
  · rw [free, onTime, late]
    rfl

/-- Settles O22: each answer by the first check that fails. -/
theorem directoryRefusals : Obligations.DirectoryRefusals := by
  unfold Obligations.DirectoryRefusals
  refine ⟨fun tag r s serial spec takes => ?_, fun tag r s serial bad fromZone toZone takes => ?_,
    fun tag r s serial fromZone toZone takes => ?_, fun tag serial s small takes => ?_, fun tag r s fits takes => ?_⟩
  · have parsed := parseAddMeter_put serial spec
    have names {n : Nat} (h : addMeterFault r = some n) := serve_answer takes parsed (addMeterAnswer_fault h s.popIntake)
    refine ⟨fun n low high before bad => names (addMeterFault_range low high before bad), fun ranges pulse twoWay => ?_,
      fun ranges flow digits => ?_, fun valid ok mapped => ?_, fun valid ok unmapped full => ?_⟩
    · refine names ((addMeterFault_cross ranges).trans ?_)
      simp [firstFault, flowFits, pulse, twoWay]
    · have kind : r.spec.kind ≤ 1 := ranges 2
      have misfit : digitsFit r.spec.kind r.spec.digits = false := by
        refine Bool.eq_false_iff.mpr (mt (digitsFit_iff kind).mp ?_)
        omega
      refine names ((addMeterFault_cross ranges).trans ?_)
      simp [firstFault, (flowFits_iff kind).mpr flow, misfit]
    · exact serve_answer takes parsed (addMeterAnswer_present (s := s.popIntake) (addMeterFault_none valid ok) mapped)
    · exact serve_answer takes parsed (addMeterAnswer_full (s := s.popIntake) (addMeterFault_none valid ok) unmapped full)
  · exact serve_answer takes (parseAttach_put serial fromZone toZone)
      (attachAnswer_fault (attachFault_serial bad) s.popIntake)
  · have parsed := parseAttach_put (r := r) (by omega) fromZone toZone
    have passes (apart : r.Apart) := attachFault_passes serial fromZone toZone apart
    refine ⟨fun same inside => ?_, fun apart unknown => ?_, fun ch m apart found => ⟨fun active => ?_, fun ok idle full => ?_⟩⟩
    · exact serve_answer takes parsed (attachAnswer_fault (attachFault_same serial toZone same inside) s.popIntake)
    · exact serve_answer takes parsed (attachAnswer_unknown (s := s.popIntake) (passes apart) unknown)
    · exact serve_answer takes parsed (attachAnswer_active (s := s.popIntake) (passes apart) found active)
    · have hm : s.popIntake.meter? ch = some m := (State.meterBySerial_some found).2
      obtain ⟨z, hz, inside, length⟩ := full
      have full := (attachFull_iff_length (s := s.popIntake) ok apart hm).mpr ⟨z, hz, inside, length.ge⟩
      exact serve_answer takes parsed (attachAnswer_full (s := s.popIntake) (passes apart) found idle full)
  · have parsed : parseNumber 4 (putNat 4 serial) = some serial := parseNumber_putNat small
    refine ⟨fun bad => ?_, fun valid unknown => ?_, fun ch m valid found active => ?_⟩
    · exact serve_answer takes parsed (removeMeterAnswer_serial bad s.popIntake)
    · exact serve_answer takes parsed (removeMeterAnswer_unknown (s := s.popIntake) valid unknown)
    · exact serve_answer takes parsed (removeMeterAnswer_active (s := s.popIntake) valid found active)
  · have parsed := parseReplace_put fits
    refine ⟨fun n low high before bad => ?_, fun ok => ⟨fun unknown => ?_, fun ch m found => ?_⟩⟩
    · exact serve_answer takes parsed (replaceAnswer_fault (replaceFault_names fits low high before bad) s.popIntake)
    · exact serve_answer takes parsed (replaceAnswer_unknown (s := s.popIntake) (replaceFault_passes fits ok) unknown)
    · obtain ⟨present, early, late⟩ := replaceAnswer_found (s := s.popIntake) (replaceFault_passes fits ok) found
      have free (h : ¬ ∃ n ∈ r.newSerial, n ≠ r.serial ∧ s.channelOf n ≠ none) : serialTaken s.popIntake r = false :=
        Bool.eq_false_iff.mpr (mt (serialTaken_iff _ r).mp h)
      have onTime (h : ¬ ∃ b ∈ m.base, r.time < b.time) : beforeBase m r.time = false :=
        Bool.eq_false_iff.mpr (mt (beforeBase_iff m _).mp h)
      refine ⟨fun taken => ?_, fun untaken before => ?_, fun untaken notBefore future => ?_⟩
      · exact serve_answer takes parsed (present ((serialTaken_iff s.popIntake r).mpr taken))
      · exact serve_answer takes parsed (early (free untaken) ((beforeBase_iff m _).mpr before))
      · exact serve_answer takes parsed (late (free untaken) (onTime notBefore) ((inFuture_iff s.popIntake _).mpr future))

end Sys2Proof.Machine
end

section
/-! SUPPORT. The reads: what each answers, and the bytes of a zone and of a group as the statement orders them. -/

namespace Sys2Proof.Machine

/-! ### Settings as signed numbers (R186) -/

theorem putNat_mod (w n : Nat) : putNat w (n % 256 ^ w) = putNat w n := by
  induction w generalizing n with
  | zero => rfl
  | succ w ih =>
    have low : BitVec.ofNat 8 (n % 256 ^ (w + 1)) = BitVec.ofNat 8 n := by
      apply BitVec.eq_of_toNat_eq
      simp only [BitVec.toNat_ofNat]
      exact Nat.mod_mod_of_dvd n (Dvd.intro_left (256 ^ w) rfl)
    have high : n % 256 ^ (w + 1) / 256 = n / 256 % 256 ^ w := by
      rw [Nat.pow_succ, Nat.mul_comm, Nat.mod_mul_right_div_self]
    rw [putNat, putNat, low, high, ih]

/-- A setting is not negative, so its signed bytes are the unsigned ones. -/
theorem putInt_natCast (w n : Nat) : putInt w (n : Int) = putNat w n := by
  rw [putInt, ← Int.natCast_mod, Int.toNat_natCast, putNat_mod]

theorem putSettings_eq (zn : Zone) :
    putSettings zn.geometry zn.params = (List.range' 1 20).flatMap fun id => putInt 4 (zn.setting id) := by
  simp only [List.range', List.flatMap_cons, List.flatMap_nil, Zone.setting, putInt_natCast, putSettings]

theorem putStaged_eq (zn : Zone) :
    putStaged zn.staged = (List.range' 1 5).flatMap fun id => putOptNat 4 (zn.pendingCopy id) := rfl

/-- R142: the body of ZONE_READ, with the published record of the held set while one is held (R144). -/
theorem zoneBody_eq (s : State) (z : Nat) :
    zoneBody s z =
      ((List.range' 1 20).flatMap fun id => putInt 4 ((s.zone z).setting id)) ++
        ((List.range' 1 5).flatMap fun id => putOptNat 4 ((s.zone z).pendingCopy id)) ++
        putNat 1 (s.zone z).attach.length ++ putOption 24 ((s.zone z).night.map putNight) ++
        putNat 1 (s.zone z).monitor.code ++ putBool (s.zone z).stopPending ++ putJudgement (s.zone z).judge ++
        putNat 1 (s.zone z).live.code ++ putNat 1 (s.zone z).held.code ++ putBool (s.zone z).summary ++
        (match s.report with
          | some set => putPublished 1 (set.zones.getD (z - 1) none)
          | none => putPublished 0 (s.zone z).published) := by
  rw [← putSettings_eq, ← putStaged_eq]
  unfold zoneBody publishedFor
  cases s.report <;> rfl

/-- R153: the body of GROUP_READ, with the two values of the held set while one is held (R144). -/
theorem groupBody_eq (s : State) (g : Nat) :
    groupBody s g =
      putNat 1 (s.group g).members.length ++ (s.group g).members.flatMap (putNat 1) ++ putNat 1 (s.group g).leakMode.code ++
        putNat 1 (s.group g).integMode.code ++ putBool (s.group g).leakEnable ++ putBool (s.group g).integEnable ++
        putNat 1 (countedMembers s (s.group g)).length ++ putNat 1 ((countedMembers s (s.group g)).countP (leakMember s)) ++
        putNat 1 (countedMembers s (s.group g)).length ++ putNat 1 ((countedMembers s (s.group g)).countP (integMember s)) ++
        (match s.report with
          | some set => putBool (set.groups.getD (g - 1) (false, false)).1 ++
              putBool (set.groups.getD (g - 1) (false, false)).2 ++ putNat 1 1
          | none => putBool (s.group g).leakValue ++ putBool (s.group g).integValue ++ putNat 1 0) := by
  unfold groupBody groupValues
  cases s.report <;> simp only [List.append_assoc]

theorem zoneOk_iff (z : Nat) : zoneOk z = true ↔ ZoneValid z := by simp [zoneOk, ZoneValid]

/-! ### The answers -/

theorem meterReadFault_serial {r : MeterReadReq} (zero : r.selector = 0) :
    meterReadFault r = if SerialValid r.key then none else some 2 := by
  have check : serialOk r.key = decide (SerialValid r.key) := Bool.eq_iff_iff.mpr (by simp [serialOk_iff])
  simp only [meterReadFault, firstFault, zero, check, if_true]
  by_cases valid : SerialValid r.key <;> simp [valid]

theorem meterReadFault_channel {r : MeterReadReq} (one : r.selector = 1) :
    meterReadFault r = if r.key < 2048 then none else some 2 := by
  by_cases low : r.key < 2048 <;> simp [meterReadFault, firstFault, one, low]

theorem meterReadAnswer_fault {r : MeterReadReq} {n : Nat} (h : meterReadFault r = some n) (s : State) :
    meterReadAnswer r s = badField s n := by
  unfold meterReadAnswer
  rw [h]

theorem meterReadAnswer_selected {r : MeterReadReq} {s : State} {ch : Nat} {m : Meter} (passes : meterReadFault r = none)
    (selected : meterSelected s r = some (ch, m)) : meterReadAnswer r s = okWith s (putMeter ch m) := by
  unfold meterReadAnswer
  rw [passes]
  dsimp only
  rw [selected]

theorem meterReadAnswer_unknown {r : MeterReadReq} {s : State} (passes : meterReadFault r = none)
    (selected : meterSelected s r = none) : meterReadAnswer r s = refuse s .unknownMeter := by
  unfold meterReadAnswer
  rw [passes]
  dsimp only
  rw [selected]

theorem zoneReadAnswer_valid {z : Nat} (valid : ZoneValid z) (s : State) :
    zoneReadAnswer z s = okWith s (zoneBody s z) := by
  simp [zoneReadAnswer, (zoneOk_iff z).mpr valid]

theorem zoneProfileAnswer_some {z : Nat} {p : Profile} {s : State} (valid : ZoneValid z)
    (hp : (s.zone z).profile = some p) : zoneProfileAnswer z s = okWith s (putProfile p) := by
  simp [zoneProfileAnswer, (zoneOk_iff z).mpr valid, hp]

theorem zoneProfileAnswer_none {z : Nat} {s : State} (valid : ZoneValid z) (hp : (s.zone z).profile = none) :
    zoneProfileAnswer z s = refuse s .noNight := by
  simp [zoneProfileAnswer, (zoneOk_iff z).mpr valid, hp]

theorem historyReadAnswer_fault {r : HistoryReadReq} {n : Nat} (h : historyFault r = some n) (s : State) :
    historyReadAnswer r s = badField s n := by
  unfold historyReadAnswer
  rw [h]

theorem historyFault_none {r : HistoryReadReq} (valid : ZoneValid r.zone) (first' : r.first ≤ 15) (low : 1 ≤ r.count)
    (high : r.count ≤ 8) : historyFault r = none := by
  have inRange : ¬ 15 < r.first := Nat.not_lt.mpr first'
  simp [historyFault, (zoneOk_iff _).mpr valid, inRange, low, high]

theorem historyReadAnswer_passes {r : HistoryReadReq} (passes : historyFault r = none) (s : State) :
    historyReadAnswer r s = if (s.zone r.zone).ring.length ≤ r.first then refuse s .noNight
      else okWith s (historyBody (s.zone r.zone) r) := by
  unfold historyReadAnswer
  rw [passes]

theorem groupReadAnswer_valid {g : Nat} (low : 1 ≤ g) (high : g ≤ 32) (s : State) :
    groupReadAnswer g s = okWith s (groupBody s g) := by
  simp [groupReadAnswer, low, high]

theorem groupReadAnswer_invalid {g : Nat} (h : g = 0 ∨ 32 < g) (s : State) : groupReadAnswer g s = badField s 1 := by
  have out : ¬ (1 ≤ g ∧ g ≤ 32) := by omega
  exact if_neg (by simpa using out)

theorem parseEmpty_nil : parseEmpty [] = some () := rfl

/-! ### METER_READ -/

/-- R15: the refusals of METER_READ. -/
theorem meterRead_refusals (tag : Byte) (r : MeterReadReq) (s : State) (selector : r.selector < 256) (key : r.key < 2 ^ 32)
    (takes : Takes s 0x05 tag (putMeterRead r)) :
    let answers := fun code body => exec (.meterRead tag (putMeterRead r)) s = .next (s.popIntake.replied 0x05 tag code body)
    (1 < r.selector → answers .badField (putNat 1 1)) ∧
    (r.selector = 0 → ¬ SerialValid r.key → answers .badField (putNat 1 2)) ∧
    (r.selector = 1 → 2048 ≤ r.key → answers .badField (putNat 1 2)) ∧
    (r.selector = 0 → SerialValid r.key → s.meterBySerial r.key = none → answers .unknownMeter []) ∧
    (r.selector = 1 → r.key < 2048 → s.meter? r.key = none → answers .unknownMeter []) := by
  have parsed := parseMeterRead_put selector key
  have names {n : Nat} (h : meterReadFault r = some n) := serve_answer takes parsed (meterReadAnswer_fault h s.popIntake)
  have unknown (passes : meterReadFault r = none) (selected : meterSelected s.popIntake r = none) :=
    serve_answer takes parsed (meterReadAnswer_unknown passes selected)
  refine ⟨fun high => names ?_, fun zero bad => names ?_, fun one high => names ?_, fun zero valid free => ?_,
    fun one low free => ?_⟩
  · simp [meterReadFault, firstFault, Nat.not_le.mpr high]
  · exact (meterReadFault_serial zero).trans (if_neg bad)
  · exact (meterReadFault_channel one).trans (if_neg (Nat.not_lt.mpr high))
  · exact unknown ((meterReadFault_serial zero).trans (if_pos valid)) (by simpa [meterSelected, zero] using free)
  · exact unknown ((meterReadFault_channel one).trans (if_pos low)) (by simpa [meterSelected, one] using free)

/-- Settles O16. -/
theorem readsReportWhatStands : Obligations.ReadsReportWhatStands := by
  unfold Obligations.ReadsReportWhatStands
  refine ⟨fun tag serial ch m s valid found takes => ?_, fun tag ch m s low hm takes => ?_, meterRead_refusals,
    fun tag z s valid takes => ?_, fun tag z p s valid hp takes => ?_, fun tag z s valid hp takes => ?_,
    fun tag r s valid first' low high stands takes => ?_, fun tag r s valid small few takes => ?_, fun tag s takes => ?_,
    fun tag g s low high takes => ?_, fun tag g s small out takes => ?_, fun tag s takes => ?_, fun tag s takes => ?_⟩
  · exact serve_answer takes (parseMeterRead_put (by simp) (show serial < 2 ^ 32 by omega))
      (meterReadAnswer_selected (s := s.popIntake) ((meterReadFault_serial rfl).trans (if_pos valid)) found)
  · exact serve_answer takes (parseMeterRead_put (by simp) (show ch < 2 ^ 32 by omega))
      (meterReadAnswer_selected (s := s.popIntake) ((meterReadFault_channel rfl).trans (if_pos low)) (by simp [meterSelected, hm]))
  · exact serve_answer (owner := zoneReadAnswer) takes (parseNumber_putNat (by omega))
      ((zoneReadAnswer_valid valid s.popIntake).trans (congrArg (okWith _) (zoneBody_eq s.popIntake z)))
  · exact serve_answer (owner := zoneProfileAnswer) takes (parseNumber_putNat (by omega))
      (zoneProfileAnswer_some (s := s.popIntake) valid hp)
  · exact serve_answer (owner := zoneProfileAnswer) takes (parseNumber_putNat (by omega))
      (zoneProfileAnswer_none (s := s.popIntake) valid hp)
  · exact serve_answer takes (parseHistoryRead_put (by omega) (by omega) (by omega))
      ((historyReadAnswer_passes (historyFault_none valid first' low high) s.popIntake).trans
        (if_neg (Nat.not_le.mpr stands)))
  · have parsed := parseHistoryRead_put (r := r) (by omega) small few
    have zone := (zoneOk_iff r.zone).mpr valid
    refine ⟨fun high => ?_, fun first' out => ?_, fun first' low high empty => ?_⟩
    · exact serve_answer takes parsed (historyReadAnswer_fault (by simp [historyFault, zone, high]) s.popIntake)
    · have inRange : ¬ 15 < r.first := Nat.not_lt.mpr first'
      have out : ¬ (1 ≤ r.count ∧ r.count ≤ 8) := by omega
      exact serve_answer takes parsed (historyReadAnswer_fault (by simp [historyFault, zone, inRange]; omega) s.popIntake)
    · exact serve_answer takes parsed
        ((historyReadAnswer_passes (historyFault_none valid first' low high) s.popIntake).trans (if_pos empty))
  · exact serve_answer (owner := fun _ => captureReadAnswer) takes parseEmpty_nil rfl
  · exact serve_answer (owner := groupReadAnswer) takes (parseNumber_putNat (by omega))
      ((groupReadAnswer_valid low high s.popIntake).trans (congrArg (okWith _) (groupBody_eq s.popIntake g)))
  · exact serve_answer (owner := groupReadAnswer) takes (parseNumber_putNat small)
      (groupReadAnswer_invalid out s.popIntake)
  · exact serve_answer (owner := fun _ => testReadAnswer) takes parseEmpty_nil rfl
  · exact serve_answer (owner := fun _ => partStatusAnswer) takes parseEmpty_nil rfl

end Sys2Proof.Machine
end

section
/-! SUPPORT. The bytes of the records: what a flag, a signed number and a part that may be absent hold in a row of fields, the
bounds of the coded values, and the layout of each record. -/

namespace Sys2Proof.Machine

/-! ### Flags, signed numbers and parts that may be absent, in a row -/

theorem slice_whole (bytes : List Byte) {w : Nat} (h : bytes.length = w) : slice bytes 0 w = bytes := by
  simpa using slice_head bytes [] h

@[simp] theorem getNat_putBool (x : Bool) : getNat (putBool x) = x.toNat := by cases x <;> rfl

@[simp] theorem slice_putBool_append (x : Bool) (b : List Byte) : slice (putBool x ++ b) 0 1 = putBool x :=
  slice_head _ _ (putBool_length x)

@[simp] theorem slice_putBool (x : Bool) : slice (putBool x) 0 1 = putBool x := slice_whole _ (putBool_length x)

@[simp] theorem slice_putInt_append (w : Nat) (i : Int) (b : List Byte) : slice (putInt w i ++ b) 0 w = putInt w i :=
  slice_head _ _ (putInt_length w i)

@[simp] theorem slice_putInt (w : Nat) (i : Int) : slice (putInt w i) 0 w = putInt w i := slice_whole _ (putInt_length w i)

@[simp] theorem getInt_putInt_four {i : Int} (fits : FitsSigned i) : getInt (putInt 4 i) = i :=
  getInt_putInt 4 i (by omega) (by omega)

theorem putNat_zero (w : Nat) : putNat w 0 = List.replicate w 0 := by
  induction w with
  | zero => rfl
  | succ w ih => simp [putNat, ih, List.replicate_succ]

theorem putOptNat_eq (w : Nat) (n : Option Nat) : putOptNat w n = putBool n.isSome ++ putNat w (n.getD 0) := by
  cases n <;> rfl

theorem putOptInt_eq (w : Nat) (i : Option Int) : putOptInt w i = putBool i.isSome ++ putInt w (i.getD 0) := by
  cases i with
  | none => simp [putOptInt, putOption, putBool, putInt]
  | some i => rfl

theorem putOption_some (w : Nat) (bytes : List Byte) : putOption w (some bytes) = putBool true ++ bytes := rfl

theorem putOption_none (w : Nat) : putOption w none = putBool false ++ List.replicate w 0 := by
  rw [← putNat_zero]; rfl

@[simp] theorem slice_putOption_presence (w : Nat) (part : Option (List Byte)) (b : List Byte) :
    slice (putOption w part ++ b) 0 1 = putBool part.isSome := by
  cases part with
  | none => simp [putOption_none]
  | some bytes => simp [putOption_some]

/-- A bound that every present value meets, and 0 too, holds of the value or 0. -/
theorem getD_zero_of_forall {α : Type} [Zero α] {P : α → Prop} {part : Option α} (zero : P 0) (h : ∀ v ∈ part, P v) :
    P (part.getD 0) := by
  cases part with
  | none => exact zero
  | some v => exact h v rfl

/-! ### Bounds of the coded values -/

theorem MeterKind.code_lt (k : MeterKind) : k.code < 256 := by cases k <;> decide

theorem Flow.code_lt (f : Flow) : f.code < 256 := by cases f <;> decide

theorem MeterState.code_lt (m : MeterState) : m.code < 256 := by cases m <;> decide

theorem MeterFault.code_lt (f : MeterFault) : f.code < 256 := by cases f <;> decide

theorem FaultKind.code_lt (k : FaultKind) : k.code < 256 := by
  cases k with
  | meterFault f => exact f.code_lt
  | zoneCause c => cases c <;> decide

theorem NightState.code_lt (n : NightState) : n.code < 256 := by cases n <;> decide

theorem CloseCause.code_lt (c : CloseCause) : c.code < 256 := by cases c <;> decide

theorem closeCauseCode_lt (c : Option CloseCause) : closeCauseCode c < 256 := by
  cases c with
  | none => decide
  | some c => exact c.code_lt

theorem HitFlag.code_lt (f : HitFlag) : f.code < 256 := by cases f <;> decide

theorem HitResult.code_lt (h : HitResult) : h.code < 256 := by
  cases h with
  | notJudged => decide
  | judged f => exact f.code_lt

theorem MonitorState.code_lt (m : MonitorState) : m.code < 256 := by cases m <;> decide

theorem TestOutcome.code_lt (o : TestOutcome) : o.code < 256 := by cases o <;> decide

theorem ReplyCode.code_lt (c : ReplyCode) : c.code < 256 := by cases c <;> decide

/-- Five flags, bit 0 first. -/
def flagSum (a b c d e : Bool) : Nat := a.toNat + 2 * b.toNat + 4 * c.toNat + 8 * d.toNat + 16 * e.toNat

theorem flagSum_bits : ∀ a b c d e : Bool,
    (flagSum a b c d e).testBit 0 = a ∧ (flagSum a b c d e).testBit 1 = b ∧ (flagSum a b c d e).testBit 2 = c ∧
      (flagSum a b c d e).testBit 3 = d ∧ (flagSum a b c d e).testBit 4 = e := by decide

theorem flagSum_lt : ∀ a b c d e : Bool, flagSum a b c d e < 32 := by decide

theorem CauseSet.code_eq (c : CauseSet) :
    c.code = flagSum c.coverage c.negative c.meter c.dark c.saturated := rfl

theorem CauseSet.code_lt (c : CauseSet) : c.code < 256 := by
  have := flagSum_lt c.coverage c.negative c.meter c.dark c.saturated
  rw [c.code_eq]
  omega

/-! ### The frame, the reply and the reading record -/

theorem putNat_one_toNat (b : Byte) : putNat 1 b.toNat = [b] := by simp [putNat]

/-- R172: a frame as a row of fields. -/
theorem frameBytes_eq (f : Frame) :
    frameBytes f = putNat 1 0xA5 ++ (putNat 2 f.payload.length ++ (putNat 1 f.kind.toNat ++ (putNat 1 f.tag.toNat ++
      (f.payload ++ putNat 2 (crc (frameCovered f)).toNat)))) := by
  simp [frameBytes, frameCovered, Config.startByte, putNat]

theorem frame_layout (f : Frame) (h : f.payload.length ≤ 1024) :
    let b := frameBytes f
    let n := f.payload.length
    b.length = 7 + n ∧ fieldAt b 0 1 = 0xA5 ∧ fieldAt b 1 2 = n ∧ fieldAt b 3 1 = f.kind.toNat ∧ fieldAt b 4 1 = f.tag.toNat ∧
      slice b 5 n = f.payload ∧ fieldAt b (5 + n) 2 = (crc (slice b 1 (4 + n))).toNat := by
  intro b n
  have kind := f.kind.isLt
  have tag := f.tag.isLt
  have length : (frameCovered f).length = 4 + n := by
    simp only [frameCovered, List.length_append, putNat_length, List.length_cons, List.length_nil, n]
  have covered : slice b 1 (4 + n) = frameCovered f := slice_append [0xA5] _ _ 1 (4 + n) rfl length
  have check : fieldAt b (5 + n) 2 = (crc (frameCovered f)).toNat := by
    refine fieldAt_append_last (0xA5 :: frameCovered f) (5 + n) 2 _ ?_ (crc (frameCovered f)).isLt
    rw [List.length_cons, length, Nat.add_right_comm]
  rw [covered]
  refine ⟨?_, ?_, ?_, ?_, ?_, ?_, check⟩
  · simp only [b, frameBytes_eq, List.length_append, putNat_length]
    omega
  all_goals simp (disch := omega) [b, n, frameBytes_eq, fieldAt, slice_head]

theorem reply_layout (r : Reply) :
    r.frame.kind = r.kind ∧ r.frame.tag = r.tag ∧ fieldAt r.frame.payload 0 1 = r.code.code ∧
      fieldAt r.frame.payload 1 1 = r.flags.toNat ∧ r.frame.payload.drop 2 = r.body := by
  have code := r.code.code_lt
  have flags := r.flags.isLt
  refine ⟨rfl, rfl, ?_, ?_, rfl⟩ <;>
    simp (disch := omega) [Reply.frame, ← putNat_one_toNat, fieldAt]

theorem reading_layout (r : ReadingRecord) (fits : r.Fits) :
    let b := putRecord r
    fieldAt b 0 4 = r.serial ∧ fieldAt b 4 4 = r.time ∧ (fieldAt b 8 1).testBit 0 = r.reverse.isSome ∧
      (fieldAt b 8 1).testBit 1 = r.sequence.isSome ∧ fieldAt b 8 1 ≤ 3 ∧ fieldAt b 9 5 = r.forward ∧
      (∀ v ∈ r.reverse, fieldAt b 14 5 = v) ∧ ∀ q ∈ r.sequence, fieldAt b (if r.reverse.isSome then 19 else 14) 1 = q := by
  intro b
  obtain ⟨serial, time, forward, reverse, sequence⟩ := fits
  have flags_le : r.reverse.isSome.toNat + 2 * r.sequence.isSome.toNat ≤ 3 := by
    have := Bool.toNat_le r.reverse.isSome
    have := Bool.toNat_le r.sequence.isSome
    omega
  have flags : fieldAt b 8 1 = flagSum r.reverse.isSome r.sequence.isSome false false false := by
    simp (disch := omega) [b, putRecord, fieldAt, flagSum]
  obtain ⟨hasReverse, hasSequence, -⟩ := flagSum_bits r.reverse.isSome r.sequence.isSome false false false
  refine ⟨?_, ?_, flags ▸ hasReverse, flags ▸ hasSequence, flags ▸ flags_le, ?_, ?_, ?_⟩
  · simp (disch := omega) [b, putRecord, fieldAt]
  · simp (disch := omega) [b, putRecord, fieldAt]
  · simp (disch := omega) [b, putRecord, fieldAt]
  · intro v present
    have := reverse v present
    simp (disch := omega) [b, putRecord, fieldAt, Option.mem_def.mp present]
  · intro q present
    have := sequence q present
    cases hr : r.reverse <;> simp (disch := omega) [b, putRecord, fieldAt, hr, Option.mem_def.mp present]

/-! ### The published record and the night record -/

theorem putPublished_some (source : Nat) (p : Published) :
    putPublished source (some p) =
      putNat 1 source ++ putInt 4 p.label ++ putNat 1 (closeCauseCode p.cause) ++
      putNat 1 (flagSum p.valid p.excluded p.survey p.held p.saturated) ++
      putNat 1 (flagSum p.mnf.isSome p.estimate.isSome p.baseline.isSome p.excess.isSome false) ++
      putInt 4 (p.mnf.getD 0) ++ putNat 4 (p.estimate.getD 0) ++ putNat 4 (p.baseline.getD 0) ++
      putInt 4 (p.excess.getD 0) ++ putNat 1 p.hit.code ++ putNat 1 p.covered ++ putNat 1 p.missing ++
      putNat 1 p.live.code ++ putNat 1 p.stateAfter.code := by
  simp [putPublished, flagBit, flagSum, Nat.mul_comm]

theorem published_layout (source : Nat) (p : Published) (source_le : source ≤ 1) (label : -1 ≤ p.label)
    (label' : p.label ≤ 49712) (mnf : ∀ f ∈ p.mnf, -20000000 ≤ f ∧ f ≤ 20000000) (estimate : ∀ e ∈ p.estimate, e ≤ 20000000)
    (baseline : ∀ b ∈ p.baseline, b ≤ 20000000) (excess : ∀ e ∈ p.excess, -40000000 ≤ e ∧ e ≤ 40000000)
    (covered : p.covered ≤ 16) (missing : p.missing ≤ 16) :
    let b := putPublished source (some p)
    b.length = 29 ∧ fieldAt b 0 1 = source ∧ getInt (slice b 1 4) = p.label ∧
    (∀ c, p.cause = some c → fieldAt b 5 1 = c.code) ∧
    (fieldAt b 6 1).testBit 0 = p.valid ∧ (fieldAt b 6 1).testBit 1 = p.excluded ∧ (fieldAt b 6 1).testBit 2 = p.survey ∧
    (fieldAt b 6 1).testBit 3 = p.held ∧ (fieldAt b 6 1).testBit 4 = p.saturated ∧
    (fieldAt b 7 1).testBit 0 = p.mnf.isSome ∧ (fieldAt b 7 1).testBit 1 = p.estimate.isSome ∧
    (fieldAt b 7 1).testBit 2 = p.baseline.isSome ∧ (fieldAt b 7 1).testBit 3 = p.excess.isSome ∧
    getInt (slice b 8 4) = p.mnf.getD 0 ∧ fieldAt b 12 4 = p.estimate.getD 0 ∧ fieldAt b 16 4 = p.baseline.getD 0 ∧
    getInt (slice b 20 4) = p.excess.getD 0 ∧ fieldAt b 24 1 = p.hit.code ∧ fieldAt b 25 1 = p.covered ∧
    fieldAt b 26 1 = p.missing ∧ fieldAt b 27 1 = p.live.code ∧ fieldAt b 28 1 = p.stateAfter.code := by
  intro b
  have mnf := getD_zero_of_forall (by omega) mnf
  have estimate := getD_zero_of_forall (by omega) estimate
  have baseline := getD_zero_of_forall (by omega) baseline
  have excess := getD_zero_of_forall (by omega) excess
  have cause := closeCauseCode_lt p.cause
  have hit := p.hit.code_lt
  have live := p.live.code_lt
  have after := p.stateAfter.code_lt
  have flags : fieldAt b 6 1 = flagSum p.valid p.excluded p.survey p.held p.saturated := by
    have := flagSum_lt p.valid p.excluded p.survey p.held p.saturated
    simp (disch := omega) [b, putPublished_some, fieldAt]
  have presence : fieldAt b 7 1 = flagSum p.mnf.isSome p.estimate.isSome p.baseline.isSome p.excess.isSome false := by
    have := flagSum_lt p.mnf.isSome p.estimate.isSome p.baseline.isSome p.excess.isSome false
    simp (disch := omega) [b, putPublished_some, fieldAt]
  have causeByte : ∀ c, p.cause = some c → fieldAt b 5 1 = c.code := by
    intro c given
    have := c.code_lt
    simp (disch := omega) [b, putPublished_some, fieldAt, given, closeCauseCode]
  simp only [flags, presence, flagSum_bits, true_and]
  refine ⟨?_, ?_, ?_, causeByte, ?_⟩
  all_goals simp (disch := omega) [b, putPublished_some, fieldAt]

theorem putPublished_none (source : Nat) :
    putPublished source none = BitVec.ofNat 8 (source + 2) :: List.replicate 28 0 := rfl

theorem nightRecord_layout (r : NightRecord) (fits : r.Fits) :
    let b := putNightRecord r
    b.length = 45 ∧ getInt (slice b 0 4) = r.label ∧ fieldAt b 4 5 = r.ws ∧ (∀ c ∈ r.cause, fieldAt b 9 1 = c.code) ∧
      fieldAt b 10 4 = r.closeTime ∧ fieldAt b 14 1 = r.valid.toNat ∧ fieldAt b 15 1 = r.excluded.toNat ∧
      fieldAt b 16 1 = r.survey.toNat ∧ fieldAt b 17 1 = r.saturated.toNat ∧ fieldAt b 18 1 = r.pubHeld.toNat ∧
      fieldAt b 19 1 = r.mnf.isSome.toNat ∧ getInt (slice b 20 4) = r.mnf.getD 0 ∧
      fieldAt b 24 1 = r.estimate.isSome.toNat ∧ fieldAt b 25 4 = r.estimate.getD 0 ∧
      fieldAt b 29 1 = r.baseline.isSome.toNat ∧ fieldAt b 30 4 = r.baseline.getD 0 ∧
      fieldAt b 34 1 = r.excess.isSome.toNat ∧ getInt (slice b 35 4) = r.excess.getD 0 ∧ fieldAt b 39 1 = r.hit.code ∧
      fieldAt b 40 1 = r.covered ∧ fieldAt b 41 1 = r.missing ∧ fieldAt b 42 1 = r.live.code ∧
      fieldAt b 43 1 = r.stateAfter.code ∧ fieldAt b 44 1 = r.leakEntered.toNat := by
  intro b
  obtain ⟨label, ws, closeTime, mnf, estimate, baseline, excess, covered, missing⟩ := fits
  have mnf := getD_zero_of_forall (by omega) mnf
  have estimate := getD_zero_of_forall (by omega) estimate
  have baseline := getD_zero_of_forall (by omega) baseline
  have excess := getD_zero_of_forall (by omega) excess
  have hit := r.hit.code_lt
  have live := r.live.code_lt
  have after := r.stateAfter.code_lt
  have causeByte : ∀ c ∈ r.cause, fieldAt b 9 1 = c.code := by
    intro c given
    have := c.code_lt
    simp (disch := omega) [b, putNightRecord, fieldAt, Option.mem_def.mp given, closeCauseCode]
  refine ⟨?_, ?_, ?_, causeByte, ?_⟩
  all_goals simp (disch := omega) [b, putNightRecord, putOptNat_eq, putOptInt_eq, fieldAt]

/-! ### Nights, profile slots, judgement states, captures and results -/

theorem night_layout (nt : Night) (fits : nt.Fits) :
    let b := putNight nt
    b.length = 24 ∧ getInt (slice b 0 4) = nt.label ∧ fieldAt b 4 5 = nt.ws ∧ fieldAt b 9 5 = nt.we ∧
      fieldAt b 14 5 = nt.deadline ∧ fieldAt b 19 1 = nt.state.code ∧ fieldAt b 20 1 = nt.cause.isSome.toNat ∧
      fieldAt b 21 1 = nt.cause.elim 0 (·.code) ∧ fieldAt b 22 1 = nt.excluded.toNat ∧ fieldAt b 23 1 = nt.survey.toNat := by
  intro b
  obtain ⟨label, ws, we, deadline⟩ := fits
  have state := nt.state.code_lt
  have cause : (nt.cause.map (·.code)).getD 0 = nt.cause.elim 0 (·.code) := by cases nt.cause <;> rfl
  have cause_lt : nt.cause.elim 0 (·.code) < 256 := by
    cases nt.cause with
    | none => decide
    | some c => exact c.code_lt
  simp (disch := omega) [b, putNight, putOptNat_eq, cause, fieldAt]

theorem profileSlot_layout (p : ProfileSlot) (volume : ∀ v ∈ p.volume, -(2 ^ 63) ≤ v ∧ v < 2 ^ 63) (count : p.count < 256) :
    let b := putProfileSlot p
    b.length = 10 ∧ fieldAt b 0 1 = p.volume.isSome.toNat ∧ getInt (slice b 1 8) = p.volume.getD 0 ∧ fieldAt b 9 1 = p.count := by
  intro b
  obtain ⟨lo, hi⟩ := getD_zero_of_forall (by omega) volume
  have back : getInt (putInt 8 (p.volume.getD 0)) = p.volume.getD 0 := getInt_putInt 8 _ (by omega) (by omega)
  simp (disch := omega) [b, putProfileSlot, putOptInt_eq, back, fieldAt]

theorem capture_layout (c : Capture) (fits : c.Fits) :
    let b := putCapture (some c)
    b.length = 14 ∧ fieldAt b 0 1 = 1 ∧ fieldAt b 1 1 = c.kind.code ∧ fieldAt b 2 1 = c.serial.isSome.toNat ∧
      fieldAt b 3 4 = c.serial.getD 0 ∧ fieldAt b 7 1 = c.zone.isSome.toNat ∧ fieldAt b 8 1 = c.zone.getD 0 ∧
      fieldAt b 9 4 = c.time ∧ fieldAt b 13 1 = c.later.toNat := by
  intro b
  obtain ⟨serial, zone, time⟩ := fits
  have serial := getD_zero_of_forall (by omega) serial
  have zone := getD_zero_of_forall (by omega) zone
  have kind := c.kind.code_lt
  simp (disch := omega) [b, putCapture, putOption_some, putOptNat_eq, fieldAt]

/-- A finding as a row of fields; absent, zeros. -/
theorem putFinding_eq (a : Option AuditFinding) :
    putOption 7 (a.map putFinding) =
      putBool a.isSome ++ putNat 1 (a.elim 0 (·.zone)) ++ putNat 4 (a.elim 0 (·.serial)) ++ putNat 2 (a.elim 0 (·.channel)) := by
  cases a <;> rfl

theorem testResult_layout (r : TestResult) (fits : r.Fits) :
    let b := putTestResult r
    b.length = 17 ∧ fieldAt b 0 1 = r.test ∧ fieldAt b 1 1 = r.outcome.code ∧ fieldAt b 2 1 = r.failCase.isSome.toNat ∧
      fieldAt b 3 1 = r.failCase.getD 0 ∧ fieldAt b 4 1 = r.failMeter.isSome.toNat ∧
      fieldAt b 5 1 = r.failMeter.elim 0 (·.zone) ∧ fieldAt b 6 4 = r.failMeter.elim 0 (·.serial) ∧
      fieldAt b 10 2 = r.failMeter.elim 0 (·.channel) ∧ fieldAt b 12 1 = r.clock.isSome.toNat ∧
      fieldAt b 13 4 = r.clock.getD 0 := by
  intro b
  obtain ⟨test, failCase, clock, finding⟩ := fits
  have failCase := getD_zero_of_forall (by omega) failCase
  have clock := getD_zero_of_forall (by omega) clock
  have outcome := r.outcome.code_lt
  have finding : r.failMeter.elim 0 (·.zone) < 256 ∧ r.failMeter.elim 0 (·.serial) < 2 ^ 32 ∧
      r.failMeter.elim 0 (·.channel) < 65536 := by
    cases hm : r.failMeter with
    | none => decide
    | some a => exact finding a hm
  simp (disch := omega) [b, putTestResult, putFinding_eq, putOptNat_eq, fieldAt]

/-! ### The meter -/

theorem slice_putOption_none (w : Nat) (b : List Byte) : slice (putOption w none ++ b) 1 w = List.replicate w 0 := by
  rw [putOption_none, List.append_assoc, slice_skip_putBool _ _ _ le_rfl]
  exact slice_head _ _ (by simp)

@[simp] theorem putOption_base_length (base : Option Base) : (putOption 18 (base.map putBase)).length = 19 :=
  putOption_length 18 _ (by cases base <;> simp [putBase])

@[simp] theorem putOption_cover_length (cover : Option Cover) : (putOption 12 (cover.map putCover)).length = 13 :=
  putOption_length 12 _ (by cases cover <;> simp [putCover])

theorem slice_skip_base (base : Option Base) (b : List Byte) {at' : Nat} (w : Nat) (h : 19 ≤ at') :
    slice (putOption 18 (base.map putBase) ++ b) at' w = slice b (at' - 19) w := by
  rw [slice_skip _ _ _ (by simpa using h), putOption_base_length]

/-- R15: a meter's record as a row of fields, its last fault by its two parts. -/
theorem putMeter_eq (ch : Nat) (m : Meter) :
    putMeter ch m =
      putNat 4 m.serial ++ putNat 2 ch ++ putNat 1 m.kind.code ++ putNat 1 m.flow.code ++ putNat 2 m.unit ++
        putNat 1 (m.digits.getD 0) ++ putNat 4 m.qmax ++ putNat 1 m.fromZone ++ putNat 1 m.toZone ++ putNat 1 m.state.code ++
        putOption 18 (m.base.map putBase) ++ putNat 1 (m.lastFault.elim 0 (·.1.code)) ++ putBool m.lastFault.isSome ++
        putNat 4 (m.lastFault.elim 0 (·.2)) ++ putOption 12 (m.fromCover.map putCover) ++
        putOption 12 (m.toCover.map putCover) ++ [] := by
  unfold putMeter
  cases m.lastFault <;> simp [putOptNat_eq]

/-- Where the cover record of a side stands in a meter's record. -/
def coverPlace (side : Side) : Nat := if side = .fromSide then 43 else 56

theorem putMeter_at_cover (ch : Nat) (m : Meter) (side : Side) :
    ∃ before after, before.length = coverPlace side ∧
      putMeter ch m = before ++ (putOption 12 ((m.coverOn side).map putCover) ++ after) := by
  cases side with
  | fromSide =>
    refine ⟨_, _, ?_, (putMeter_eq ch m).trans ((List.append_assoc _ _ _).trans (List.append_assoc _ _ _))⟩
    simp [coverPlace]
  | toSide =>
    refine ⟨_, _, ?_, (putMeter_eq ch m).trans (List.append_assoc _ _ _)⟩
    simp [coverPlace]

theorem cover_layout (cover : Option Cover) (before after : List Byte) (fits : ∀ c ∈ cover, c.Fits) :
    let b := before ++ (putOption 12 (cover.map putCover) ++ after)
    let n := before.length
    fieldAt b n 1 = cover.isSome.toNat ∧ (cover = none → slice b (n + 1) 12 = List.replicate 12 0) ∧
      ∀ c ∈ cover, fieldAt b (n + 1) 1 = c.runStart.isSome.toNat ∧ fieldAt b (n + 2) 4 = c.runStart.getD 0 ∧
        fieldAt b (n + 6) 4 = c.runEnd ∧ fieldAt b (n + 10) 2 = c.mask.toNat ∧ fieldAt b (n + 12) 1 = c.faulted.toNat := by
  intro b n
  have skip : ∀ k w, slice b (n + k) w = slice (putOption 12 (cover.map putCover) ++ after) k w := fun k w => by
    simpa [b, n] using slice_skip before (putOption 12 (cover.map putCover) ++ after) w (Nat.le_add_right n k)
  have presence : fieldAt b n 1 = cover.isSome.toNat := by simpa [fieldAt] using congrArg getNat (skip 0 1)
  refine ⟨presence, ?_, ?_⟩
  · rintro rfl
    rw [skip]
    exact slice_putOption_none 12 after
  · rintro c rfl
    obtain ⟨runStart, runEnd⟩ := fits c rfl
    have runStart := getD_zero_of_forall (by omega) runStart
    have mask := c.mask.isLt
    simp (disch := omega) [fieldAt, skip, putOption_some, putCover, putOptNat_eq]

theorem meter_layout (ch : Nat) (m : Meter) (channel : ch < 65536) (fits : m.Fits) :
    let b := putMeter ch m
    let from' := fun (side : Side) => if side = .fromSide then 43 else 56
    b.length = 69 ∧ fieldAt b 0 4 = m.serial ∧ fieldAt b 4 2 = ch ∧ fieldAt b 6 1 = m.kind.code ∧ fieldAt b 7 1 = m.flow.code ∧
    fieldAt b 8 2 = m.unit ∧ fieldAt b 10 1 = m.digits.getD 0 ∧ fieldAt b 11 4 = m.qmax ∧ fieldAt b 15 1 = m.fromZone ∧
    fieldAt b 16 1 = m.toZone ∧ fieldAt b 17 1 = m.state.code ∧ fieldAt b 18 1 = m.base.isSome.toNat ∧
    (m.base = none → slice b 19 18 = List.replicate 18 0) ∧
    (∀ x ∈ m.base, fieldAt b 19 4 = x.time ∧ fieldAt b 23 1 = x.forward.isSome.toNat ∧ fieldAt b 24 5 = x.forward.getD 0 ∧
      fieldAt b 29 1 = x.reverse.isSome.toNat ∧ fieldAt b 30 5 = x.reverse.getD 0 ∧
      fieldAt b 35 1 = x.sequence.isSome.toNat ∧ fieldAt b 36 1 = x.sequence.getD 0) ∧
    fieldAt b 37 1 = m.lastFault.elim 0 (·.1.code) ∧ fieldAt b 38 1 = m.lastFault.isSome.toNat ∧
    fieldAt b 39 4 = m.lastFault.elim 0 (·.2) ∧
    ∀ side, fieldAt b (from' side) 1 = (m.coverOn side).isSome.toNat ∧
      (m.coverOn side = none → slice b (from' side + 1) 12 = List.replicate 12 0) ∧
      ∀ c ∈ m.coverOn side, fieldAt b (from' side + 1) 1 = c.runStart.isSome.toNat ∧
        fieldAt b (from' side + 2) 4 = c.runStart.getD 0 ∧ fieldAt b (from' side + 6) 4 = c.runEnd ∧
        fieldAt b (from' side + 10) 2 = c.mask.toNat ∧ fieldAt b (from' side + 12) 1 = c.faulted.toNat := by
  intro b from'
  obtain ⟨serial, unit, digits, qmax, fromZone, toZone, base, fault, covers⟩ := fits
  have digits := getD_zero_of_forall (by omega) digits
  have kind := m.kind.code_lt
  have flow := m.flow.code_lt
  have state := m.state.code_lt
  have fault : m.lastFault.elim 0 (·.1.code) < 256 ∧ m.lastFault.elim 0 (·.2) < 2 ^ 32 := by
    cases given : m.lastFault with
    | none => decide
    | some f => exact ⟨f.1.code_lt, fault f given⟩
  refine ⟨?_, ?_, ?_, ?_, ?_, ?_, ?_, ?_, ?_, ?_, ?_, ?_, ?_, ?_, ?_, ?_, ?_, fun side => ?_⟩
  case refine_13 =>
    intro absent
    simp (disch := omega) [b, putMeter_eq, absent, slice_putOption_none]
  case refine_14 =>
    intro x present
    obtain ⟨time, forward, reverse, sequence⟩ := base x present
    have forward := getD_zero_of_forall (by omega) forward
    have reverse := getD_zero_of_forall (by omega) reverse
    have sequence := getD_zero_of_forall (by omega) sequence
    simp (disch := omega) [b, putMeter_eq, Option.mem_def.mp present, putOption_some, putBase, putOptNat_eq, fieldAt]
  case refine_18 =>
    obtain ⟨before, after, place, bytes⟩ := putMeter_at_cover ch m side
    have stands := cover_layout (m.coverOn side) before after (covers side)
    rw [← bytes, place] at stands
    exact stands
  all_goals simp (disch := omega) [b, putMeter_eq, slice_skip_base, fieldAt]

/-! ### The judgement state -/

theorem putHitFlags_length (hits : List HitFlag) : (hits.flatMap fun f => putNat 1 f.code).length = hits.length := by
  induction hits with
  | nil => rfl
  | cons first rest ih => simp [ih, Nat.add_comm]

theorem fieldAt_putHitFlags {hits : List HitFlag} {i : Nat} {flag : HitFlag} (b : List Byte) (h : hits[i]? = some flag) :
    fieldAt ((hits.flatMap fun f => putNat 1 f.code) ++ b) i 1 = flag.code := by
  induction hits generalizing i with
  | nil => simp at h
  | cons first rest ih =>
    rw [List.flatMap_cons, List.append_assoc]
    cases i with
    | zero =>
      obtain rfl : first = flag := by simpa using h
      simp [fieldAt, first.code_lt]
    | succ i =>
      rw [fieldAt_skip _ _ _ (by simp), putNat_length, Nat.add_sub_cancel]
      exact ih (by simpa using h)

theorem judgement_layout (j : Judgement) (fits : j.Fits) :
    let b := putJudgement j
    let n := j.hitList.length
    b.length = 15 + n ∧ fieldAt b 0 1 = j.baseline.isSome.toNat ∧ fieldAt b 1 4 = j.baseline.getD 0 ∧
      fieldAt b 5 1 = j.learningCount ∧ fieldAt b 6 1 = n ∧
      (∀ (i : Nat) (flag : HitFlag), j.hitList[i]? = some flag → fieldAt b (7 + i) 1 = flag.code) ∧
      fieldAt b (7 + n) 1 = j.nonHitRun ∧ fieldAt b (8 + n) 1 = j.darkCount ∧ fieldAt b (9 + n) 1 = j.leakHeld.toNat ∧
      fieldAt b (10 + n) 1 = j.lastMnf.isSome.toNat ∧ getInt (slice b (11 + n) 4) = j.lastMnf.getD 0 := by
  intro b n
  obtain ⟨baseline, learningCount, hits, nonHitRun, darkCount, lastMnf⟩ := fits
  have baseline := getD_zero_of_forall (by omega) baseline
  have lastMnf := getD_zero_of_forall (by omega) lastMnf
  have flags := putHitFlags_length j.hitList
  have bytes : b = (putOptNat 4 j.baseline ++ putNat 1 j.learningCount ++ putNat 1 n) ++
      ((j.hitList.flatMap fun f => putNat 1 f.code) ++
        (putNat 1 j.nonHitRun ++ putNat 1 j.darkCount ++ putBool j.leakHeld ++ putOptInt 4 j.lastMnf)) := by
    simp [b, n, putJudgement, putHits]
  have within : ∀ (i : Nat) (flag : HitFlag), j.hitList[i]? = some flag → fieldAt b (7 + i) 1 = flag.code := by
    intro i flag stands
    rw [bytes, fieldAt_skip _ _ _ (by simp), List.length_append, List.length_append, putOptNat_length, putNat_length,
      putNat_length, Nat.add_sub_cancel_left]
    exact fieldAt_putHitFlags _ stands
  have beyond : ∀ {at' : Nat} (w : Nat), 7 + n ≤ at' → slice b at' w =
      slice (putNat 1 j.nonHitRun ++ putNat 1 j.darkCount ++ putBool j.leakHeld ++ putOptInt 4 j.lastMnf)
        (at' - (7 + n)) w := by
    intro at' w past
    have length : ((putOptNat 4 j.baseline ++ putNat 1 j.learningCount ++ putNat 1 n) ++
        j.hitList.flatMap fun f => putNat 1 f.code).length = 7 + n := by
      simp [flags, n]
      omega
    rw [bytes, ← List.append_assoc, slice_skip _ _ _ (length.trans_le past), length]
  refine ⟨?_, ?_, ?_, ?_, ?_, within, ?_⟩
  · simp [bytes, flags, putOptInt_eq]
    omega
  case refine_6 =>
    simp (disch := omega) [fieldAt, beyond, putOptInt_eq, Nat.add_sub_add_right]
  all_goals simp (disch := omega) [bytes, putOptNat_eq, fieldAt]

end Sys2Proof.Machine
end

section
/-! SETTLES O10: the layouts of the records, put together. -/

namespace Sys2Proof.Machine

/-- Settles O10: the coded values by evaluation, each record by its layout. -/
theorem recordLayouts : Obligations.RecordLayouts := by
  unfold Obligations.RecordLayouts
  refine ⟨?_, frame_layout, reply_layout, reading_layout, published_layout, fun source _ => putPublished_none source,
    fun w => ⟨fun _ => rfl, ?_⟩, meter_layout, night_layout, judgement_layout, nightRecord_layout, profileSlot_layout,
    capture_layout, rfl, testResult_layout, rfl, rfl, fun _ => rfl⟩
  · exact ⟨rfl, rfl, rfl, rfl, rfl, rfl, rfl, rfl, rfl, rfl, fun _ => rfl, fun _ => rfl, rfl, rfl, rfl,
      ⟨rfl, fun _ => ⟨rfl, rfl⟩⟩, rfl, rfl, rfl,
      fun c => ⟨flagSum_bits c.coverage c.negative c.meter c.dark c.saturated, flagSum_lt _ _ _ _ _⟩⟩
  · rw [putOption_none, Nat.add_comm, List.replicate_succ]
    rfl

end Sys2Proof.Machine
end

section
/-! SUPPORT. The requests whose length their own fields decide, read back from their bytes (R18, R20, R176, R186). -/

namespace Sys2Proof.Machine

/-! ### One field, and the rest of the row -/

@[simp] theorem drop_putNat_append (w n : Nat) (b : List Byte) : (putNat w n ++ b).drop w = b :=
  List.drop_left' (putNat_length w n)

/-! ### Settings entries -/

theorem putEntries_length (es : List (Nat × Int)) : (putEntries es).length = 5 * es.length := by
  induction es with
  | nil => rfl
  | cons e rest ih =>
    simp only [putEntries, List.flatMap_cons, List.length_append, putNat_length, putInt_length] at ih ⊢
    rw [ih, List.length_cons]
    omega

theorem parseEntries_put {es : List (Nat × Int)} (fits : ∀ e ∈ es, EntryFits e) :
    parseEntries es.length (putEntries es) = es := by
  induction es with
  | nil => rfl
  | cons e rest ih =>
    obtain ⟨⟨id, value⟩, others⟩ := List.forall_mem_cons.mp fits
    have row : putEntries (e :: rest) = putNat 1 e.1 ++ (putInt 4 e.2 ++ putEntries rest) := by
      simp [putEntries]
    have tail : (putNat 1 e.1 ++ (putInt 4 e.2 ++ putEntries rest)).drop 5 = putEntries rest := by
      rw [← List.append_assoc]
      exact List.drop_left' (by simp)
    rw [row, List.length_cons, parseEntries, tail, ih others]
    simp (disch := omega) [fieldAt, getInt_putInt_four value]

theorem parsePartSet_put {es : List (Nat × Int)} (low : 1 ≤ es.length) (high : es.length ≤ 4)
    (fits : ∀ e ∈ es, EntryFits e) : parsePartSet (putPartSet es) = some ⟨es.length, es⟩ := by
  have count : fieldAt (putPartSet es) 0 1 = es.length := by
    simp (disch := omega) [putPartSet, fieldAt]
  have length : (putPartSet es).length = 1 + 5 * es.length := by simp [putPartSet, putEntries_length]
  have rest : (putPartSet es).drop 1 = putEntries es := drop_putNat_append _ _ _
  simp [parsePartSet, count, length, rest, parseEntries_put fits, partCountOk, low, high]

theorem parseZoneSet_put {z : Nat} {es : List (Nat × Int)} (zone : z < 256) (low : 1 ≤ es.length) (high : es.length ≤ 20)
    (fits : ∀ e ∈ es, EntryFits e) : parseZoneSet (putZoneSet z es) = some ⟨z, es.length, es⟩ := by
  have number : fieldAt (putZoneSet z es) 0 1 = z := by simp (disch := omega) [putZoneSet, fieldAt]
  have count : fieldAt (putZoneSet z es) 1 1 = es.length := by simp (disch := omega) [putZoneSet, fieldAt]
  have length : (putZoneSet z es).length = 2 + 5 * es.length := by
    simp [putZoneSet, putEntries_length]
    omega
  have rest : (putZoneSet z es).drop 2 = putEntries es := List.drop_left' (by simp)
  have fixed : ¬ 2 + 5 * es.length < 2 := by omega
  simp only [parseZoneSet, number, count, length, rest, parseEntries_put fits, zoneEntryCountOk, low, high, fixed, if_false,
    decide_true, Bool.and_self, if_true]

/-! ### Zones and groups -/

theorem parseZoneStart_put {r : ZoneStartReq} (zone : r.zone < 256) (mode : r.mode < 256) (seed : ∀ b ∈ r.seed, b < 2 ^ 32) :
    parseZoneStart (putZoneStart r) = some r := by
  simp (disch := first | omega | assumption) [parseZoneStart, putZoneStart, fieldAt]

theorem toNat_putMembers {zs : List Nat} (fits : ∀ z ∈ zs, z < 256) : (zs.flatMap (putNat 1)).map (·.toNat) = zs := by
  induction zs with
  | nil => rfl
  | cons z rest ih =>
    obtain ⟨small, others⟩ := List.forall_mem_cons.mp fits
    rw [List.flatMap_cons, List.map_append, ih others]
    simp [putNat, Nat.mod_eq_of_lt small]

theorem parseGroupSet_put {r : GroupSetReq} (group : r.group < 256) (leakMode : r.leakMode < 256)
    (leakEnable : r.leakEnable < 256) (integMode : r.integMode < 256) (integEnable : r.integEnable < 256)
    (count : r.count ≤ 32) (members : r.members.length = r.count) (fits : ∀ z ∈ r.members, z < 256) :
    parseGroupSet (putGroupSet r) = some r := by
  have rest : (putGroupSet r).drop 6 = r.members.flatMap (putNat 1) := List.drop_left' (by simp)
  have length : (putGroupSet r).length = 6 + r.count := by
    simp [putGroupSet, members]
    omega
  have fixed : ¬ 6 + r.count < 6 := by omega
  have last : fieldAt (putGroupSet r) 5 1 = r.count := by simp (disch := omega) [putGroupSet, fieldAt]
  simp only [parseGroupSet, length, rest, last, toNat_putMembers fits, groupCountOk, count, fixed, if_false, decide_true, if_true]
  simp (disch := omega) [putGroupSet, fieldAt]

/-! ### Reading records (R18) -/

/-- R18: which optional fields a record carries, as its presence byte codes them. -/
theorem putRecord_presence (r : ReadingRecord) (rest : List Byte) :
    fieldAt (putRecord r ++ rest) 8 1 = r.reverse.isSome.toNat + 2 * r.sequence.isSome.toNat := by
  have := Bool.toNat_le r.reverse.isSome
  have := Bool.toNat_le r.sequence.isSome
  simp (disch := omega) [putRecord, fieldAt]

theorem putRecord_length (r : ReadingRecord) :
    (putRecord r).length = 14 + 5 * r.reverse.isSome.toNat + r.sequence.isSome.toNat := by
  cases hr : r.reverse <;> cases hs : r.sequence <;> simp [putRecord, hr, hs]

theorem putRecord_presence_bits (r : ReadingRecord) (rest : List Byte) :
    (fieldAt (putRecord r ++ rest) 8 1).testBit 0 = r.reverse.isSome ∧
      (fieldAt (putRecord r ++ rest) 8 1).testBit 1 = r.sequence.isSome ∧ fieldAt (putRecord r ++ rest) 8 1 ≤ 3 := by
  rw [putRecord_presence]
  generalize r.reverse.isSome = hasReverse
  generalize r.sequence.isSome = hasSequence
  decide +revert

theorem putRecord_reverse {r : ReadingRecord} (fits : ∀ v ∈ r.reverse, v < 2 ^ 40) (rest : List Byte) :
    (if r.reverse.isSome then some (fieldAt (putRecord r ++ rest) 14 5) else none) = r.reverse := by
  cases h : r.reverse with
  | none => rfl
  | some v =>
    have small : v < 2 ^ 40 := fits v h
    simp (disch := omega) [putRecord, h, fieldAt]

theorem putRecord_sequence {r : ReadingRecord} (fits : ∀ q ∈ r.sequence, q < 256) (rest : List Byte) :
    (if r.sequence.isSome then
      some (fieldAt (putRecord r ++ rest) (if r.reverse.isSome then 19 else 14) 1) else none) = r.sequence := by
  cases h : r.sequence with
  | none => rfl
  | some q =>
    have small : q < 256 := fits q h
    cases hr : r.reverse <;> simp (disch := omega) [putRecord, h, hr, fieldAt]

/-- R18: a record reads back from the head of its bytes, and leaves what follows it. -/
theorem parseRecord_put {r : ReadingRecord} (fits : r.Fits) (rest : List Byte) :
    parseRecord (putRecord r ++ rest) = some (r, rest) := by
  obtain ⟨serial, time, forward, reverse, sequence⟩ := fits
  obtain ⟨hasReverse, hasSequence, presence⟩ := putRecord_presence_bits r rest
  have fixed : fieldAt (putRecord r ++ rest) 0 4 = r.serial ∧ fieldAt (putRecord r ++ rest) 4 4 = r.time ∧
      fieldAt (putRecord r ++ rest) 9 5 = r.forward := by
    refine ⟨?_, ?_, ?_⟩ <;> simp (disch := omega) [putRecord, fieldAt]
  obtain ⟨serialBack, timeBack, forwardBack⟩ := fixed
  have length : (if r.reverse.isSome then 19 else 14) + r.sequence.isSome.toNat = (putRecord r).length := by
    rw [putRecord_length]
    cases r.reverse <;> rfl
  simp only [parseRecord, hasReverse, hasSequence, length, serialBack, timeBack, forwardBack, putRecord_reverse reverse,
    putRecord_sequence sequence, presence, List.length_append, Nat.le_add_right, and_self, if_true, List.drop_left]

theorem parseReading_put {r : ReadingRecord} (fits : r.Fits) : parseReading (putRecord r) = some r := by
  have parsed := parseRecord_put fits []
  rw [List.append_nil] at parsed
  simp [parseReading, parsed]

theorem parseRecords_put {rs : List ReadingRecord} (fits : ∀ r ∈ rs, r.Fits) :
    parseRecords rs.length (rs.flatMap putRecord) = some rs := by
  induction rs with
  | nil => rfl
  | cons r rest ih =>
    obtain ⟨first, others⟩ := List.forall_mem_cons.mp fits
    simp [parseRecords, parseRecord_put first, ih others]

/-- R20, R176: a count in range is followed by its records. -/
theorem parseBatch_put {rs : List ReadingRecord} (low : 1 ≤ rs.length) (high : rs.length ≤ 16) (fits : ∀ r ∈ rs, r.Fits) :
    parseBatch (putBatch rs) = some ⟨rs.length, rs⟩ := by
  have count : fieldAt (putBatch rs) 0 1 = rs.length := by simp (disch := omega) [putBatch, fieldAt]
  have rest : (putBatch rs).drop 1 = rs.flatMap putRecord := drop_putNat_append _ _ _
  have fixed : ¬ (putBatch rs).length < 1 := by simp [putBatch]
  simp [parseBatch, count, rest, fixed, parseRecords_put fits, batchCountOk, low, high]

/-- Settles O9: each request by its own parser. -/
theorem requestFieldsReadBack : Obligations.RequestFieldsReadBack := by
  unfold Obligations.RequestFieldsReadBack
  refine ⟨fun r => parseAddMeter_put, fun r => parseAttach_put, ?_, fun r => parseMeterRead_put, fun es => parsePartSet_put,
    fun z es => parseZoneSet_put, fun r => parseZoneStart_put, fun r => parseGroupSet_put, fun r => parseHistoryRead_put,
    fun rs => parseBatch_put, fun r fits => ⟨parseReading_put fits, putRecord_length r⟩⟩
  intro r serial newSerial spec time forward reverse sequence
  exact parseReplace_put ⟨serial, newSerial, spec, time, forward, reverse, sequence⟩

end Sys2Proof.Machine
end

section
/-! SUPPORT. One reading record (R21 to R26): what its checks find, and what a READING does once it passes them. -/

namespace Sys2Proof.Machine

/-! ### Field checks (R22) -/

/-- R22, field 3. -/
def valueCheck (m : Meter) (r : ReadingRecord) : Bool :=
  match m.kind with
  | .register => r.forward < m.modulus
  | .pulse => r.forward ≤ 65535

/-- R22, field 4. -/
def reverseCheck (m : Meter) (r : ReadingRecord) : Bool :=
  match m.flow, r.reverse with
  | .oneWay, none => true
  | .twoWay, some v => v < m.modulus
  | _, _ => false

/-- R22, field 5. -/
def sequenceCheck (m : Meter) (r : ReadingRecord) : Bool :=
  match m.kind, r.sequence with
  | .register, none => true
  | .pulse, some _ => true
  | _, _ => false

theorem recordFault_checks (m : Meter) (r : ReadingRecord) :
    recordFault m r = firstFault [(3, valueCheck m r), (4, reverseCheck m r), (5, sequenceCheck m r)] := rfl

theorem Meter.modulus_eq (m : Meter) : m.modulus = 10 ^ m.digits.getD 0 := rfl

theorem valueCheck_iff (m : Meter) (r : ReadingRecord) : valueCheck m r = true ↔ r.ValueOk m := by
  cases hk : m.kind <;> simp [valueCheck, ReadingRecord.ValueOk, hk, ← Meter.modulus_eq]

theorem reverseCheck_iff (m : Meter) (r : ReadingRecord) : reverseCheck m r = true ↔ r.ReverseOk m := by
  cases hf : m.flow <;> cases hr : r.reverse <;> simp [reverseCheck, ReadingRecord.ReverseOk, hf, hr, ← Meter.modulus_eq]

theorem sequenceCheck_iff (m : Meter) (r : ReadingRecord) : sequenceCheck m r = true ↔ r.SequenceOk m := by
  cases hk : m.kind <;> cases hs : r.sequence <;> simp [sequenceCheck, ReadingRecord.SequenceOk, hk, hs]

/-- R22: the first of fields 3 to 5 that fails, in terms of what each field has to meet. -/
theorem recordFault_eq (m : Meter) (r : ReadingRecord) :
    recordFault m r =
      if r.ValueOk m then if r.ReverseOk m then if r.SequenceOk m then none else some 5 else some 4 else some 3 := by
  simp only [recordFault_checks, firstFault, valueCheck_iff, reverseCheck_iff, sequenceCheck_iff]

theorem recordFault_value {m : Meter} {r : ReadingRecord} (bad : ¬ r.ValueOk m) : recordFault m r = some 3 := by
  rw [recordFault_eq, if_neg bad]

theorem recordFault_reverse {m : Meter} {r : ReadingRecord} (value : r.ValueOk m) (bad : ¬ r.ReverseOk m) :
    recordFault m r = some 4 := by
  rw [recordFault_eq, if_pos value, if_neg bad]

theorem recordFault_sequence {m : Meter} {r : ReadingRecord} (value : r.ValueOk m) (reverse : r.ReverseOk m)
    (bad : ¬ r.SequenceOk m) : recordFault m r = some 5 := by
  rw [recordFault_eq, if_pos value, if_pos reverse, if_neg bad]

theorem recordFault_passes {m : Meter} {r : ReadingRecord} (ok : r.FieldsOk m) : recordFault m r = none := by
  obtain ⟨value, reverse, sequence⟩ := ok
  rw [recordFault_eq, if_pos value, if_pos reverse, if_pos sequence]

/-! ### The checks in order (R21) -/

theorem takeRecord_unset {s : State} (r : ReadingRecord) (clock : s.clock = none) :
    takeRecord r s = ⟨s, .noClock, 0⟩ := by
  simp [takeRecord, clock]

theorem takeRecord_unknown {r : ReadingRecord} {s : State} (clock : s.clock ≠ none)
    (unknown : s.meterBySerial r.serial = none) : takeRecord r s = ⟨s, .unknownMeter, 0⟩ := by
  simp [takeRecord, clock, unknown]

theorem takeRecord_fault {r : ReadingRecord} {s : State} {clock ch field : Nat} {m : Meter} (set : s.clock = some clock)
    (found : s.meterBySerial r.serial = some (ch, m)) (fault : recordFault m r = some field) :
    takeRecord r s = ⟨s, .badField, field⟩ := by
  simp [takeRecord, set, found, fault]

theorem takeRecord_future {r : ReadingRecord} {s : State} {clock ch : Nat} {m : Meter} (set : s.clock = some clock)
    (found : s.meterBySerial r.serial = some (ch, m)) (ok : r.FieldsOk m) (future : clock + s.settings.skew < r.time) :
    takeRecord r s = ⟨s, .futureTime, 0⟩ := by
  have late : inFuture s r.time = true := (inFuture_iff s r.time).mpr ⟨clock, set, future⟩
  simp [takeRecord, set, found, recordFault_passes ok, late]

/-- R21: a record that passes checks 1 to 4 is held against the meter's base. -/
theorem takeRecord_passes {r : ReadingRecord} {s : State} {clock ch : Nat} {m : Meter} (set : s.clock = some clock)
    (found : s.meterBySerial r.serial = some (ch, m)) (ok : r.FieldsOk m) (notFuture : r.time ≤ clock + s.settings.skew) :
    takeRecord r s = againstBase ch m r s := by
  have notLate : inFuture s r.time = false := by
    refine Bool.eq_false_iff.mpr (mt (inFuture_iff s r.time).mp ?_)
    rintro ⟨c, hc, late⟩
    cases set.symm.trans hc
    exact Nat.not_lt.mpr notFuture late
  simp [takeRecord, set, found, recordFault_passes ok, notLate]

/-! ### Against the base (R25, R26) -/

theorem againstBase_early {ch : Nat} {m : Meter} {b : Base} {r : ReadingRecord} (s : State) (base : m.base = some b)
    (early : r.time < b.time) : againstBase ch m r s = ⟨s, .outOfOrder, 0⟩ := by
  simp [againstBase, base, early]

theorem againstBase_repeat {ch : Nat} {m : Meter} {b : Base} {r : ReadingRecord} {code : ReplyCode} (s : State)
    (base : m.base = some b) (notEarly : b.time ≤ r.time) (again : repeatOf m b r = some code) :
    againstBase ch m r s = ⟨s, code, 0⟩ := by
  simp [againstBase, base, Nat.not_lt.mpr notEarly, again]

/-- R21: a record that passes the seven checks forms an interval. -/
theorem againstBase_passes {ch : Nat} {m : Meter} {b : Base} {r : ReadingRecord} (s : State) (base : m.base = some b)
    (notEarly : b.time ≤ r.time) (new : repeatOf m b r = none) : againstBase ch m r s = formInterval ch m b r s := by
  simp [againstBase, base, Nat.not_lt.mpr notEarly, new]

theorem repeatOf_register {m : Meter} {b : Base} {r : ReadingRecord} (kind : m.kind = .register) (same : r.time = b.time) :
    repeatOf m b r =
      if some r.forward = b.forward ∧ (m.flow = .twoWay → r.reverse = b.reverse) then some .duplicate
      else some .conflict := by
  cases hf : m.flow <;> simp [repeatOf, kind, same, hf]

theorem repeatOf_pulse {m : Meter} {b : Base} {r : ReadingRecord} (kind : m.kind = .pulse) :
    repeatOf m b r =
      if r.time = b.time ∧ r.sequence = b.sequence then some .duplicate
      else if r.time = b.time ∨ r.sequence = b.sequence then some .conflict
      else none := by
  simp [repeatOf, kind]

/-! ### READING (R19) -/

/-- What a taken READING answers, from what its record draws. -/
theorem exec_reading {tag : Byte} {r : ReadingRecord} {s : State} (fits : r.Fits) (takes : Takes s 0x10 tag (putRecord r)) :
    exec (.reading tag (putRecord r)) s =
      .next ((takeRecord r s.popIntake).state.replied 0x10 tag (takeRecord r s.popIntake).code
        (putNat 1 (takeRecord r s.popIntake).detail)) :=
  serve_fields (owner := readingAnswer) takes (parseReading_put fits)

/-- A READING whose record draws a refusal. -/
theorem exec_reading_refused {tag : Byte} {r : ReadingRecord} {s : State} {code : ReplyCode} {detail : Nat} (fits : r.Fits)
    (takes : Takes s 0x10 tag (putRecord r)) (refused : takeRecord r s.popIntake = ⟨s.popIntake, code, detail⟩) :
    exec (.reading tag (putRecord r)) s = .next (s.popIntake.replied 0x10 tag code (putNat 1 detail)) := by
  rw [exec_reading fits takes, refused]

/-- Settles O28: each refusal, with the checks before it passed. -/
theorem readingRefusals : Obligations.ReadingRefusals := by
  unfold Obligations.ReadingRefusals
  intro tag r s fits takes answers
  have refused {code : ReplyCode} {detail : Nat} (h : takeRecord r s.popIntake = ⟨s.popIntake, code, detail⟩) :
      answers code detail := exec_reading_refused fits takes h
  refine ⟨fun unset => refused (takeRecord_unset r unset), fun set unknown => refused (takeRecord_unknown set unknown), ?_⟩
  intro clock ch m set found
  refine ⟨fun value => refused (takeRecord_fault set found (recordFault_value value)),
    fun value reverse => refused (takeRecord_fault set found (recordFault_reverse value reverse)),
    fun value reverse sequence => refused (takeRecord_fault set found (recordFault_sequence value reverse sequence)),
    fun ok future => refused (takeRecord_future set found ok future), ?_⟩
  intro b ok notFuture base
  have against {code : ReplyCode} (h : againstBase ch m r s.popIntake = ⟨s.popIntake, code, 0⟩) : answers code 0 :=
    refused ((takeRecord_passes (s := s.popIntake) set found ok notFuture).trans h)
  have again {code : ReplyCode} (notEarly : b.time ≤ r.time) (h : repeatOf m b r = some code) : answers code 0 :=
    against (againstBase_repeat _ base notEarly h)
  refine ⟨fun early => against (againstBase_early _ base early), fun kind same => ?_, fun kind notEarly => ?_⟩
  · have repeats := repeatOf_register kind same
    exact ⟨fun forward reverse => again same.ge (repeats.trans (if_pos ⟨forward, reverse⟩)),
      fun differs => again same.ge (repeats.trans (if_neg differs))⟩
  · have repeats := repeatOf_pulse (b := b) (r := r) kind
    exact ⟨fun time sequence => again notEarly (by simp [repeats, time, sequence]),
      fun time sequence => again notEarly (by simp [repeats, time, sequence]),
      fun time sequence => again notEarly (by simp [repeats, time, sequence])⟩

/-! ### The base that a reading sets (R24) -/

theorem baseFrom_eq (m : Meter) (r : ReadingRecord) :
    m.baseFrom r =
      { time := r.time
        forward := if m.kind = MeterKind.register then some r.forward else none
        reverse := if m.flow = Flow.twoWay then r.reverse else none
        sequence := if m.kind = MeterKind.pulse then r.sequence else none } := by
  unfold Meter.baseFrom baseFor
  cases m.kind <;> cases m.flow <;> rfl

theorem updMeter_of_some {s : State} {ch : Nat} {m : Meter} (h : s.meter? ch = some m) (f : Meter → Meter) :
    s.updMeter ch f = s.setMeter ch (f m) := by
  simp [State.updMeter, h]

/-- Settles O29: without a base, the checks that passed are all there are, and the base moves. -/
theorem firstReadingSetsBase : Obligations.FirstReadingSetsBase := by
  unfold Obligations.FirstReadingSetsBase
  intro tag r clock ch m s fits set found ok notFuture unbased takes
  have meter : s.popIntake.meter? ch = some m := (State.meterBySerial_some found).2
  have taken : takeRecord r s.popIntake = ⟨moveBase ch r s.popIntake, .ok, 0⟩ :=
    (takeRecord_passes (s := s.popIntake) set found ok notFuture).trans (by simp [againstBase, unbased])
  rw [exec_reading fits takes, taken, moveBase, updMeter_of_some meter, baseFrom_eq]
  rfl

end Sys2Proof.Machine
end

section
/-! SUPPORT. What an interval is taken for (R27 to R31), and what a gap does (R33 to R35). -/

namespace Sys2Proof.Machine

/-! ### Streams (R30, R31) -/

/-- R30: the count difference of a register stream, wrapped where the index fell. -/
theorem registerStream_count (v₀ v₁ modulus : Nat) :
    (registerStream v₀ v₁ modulus).1 = if v₀ ≤ v₁ then v₁ - v₀ else v₁ + modulus - v₀ := by
  unfold registerStream
  split <;> rfl

theorem registerStream_wrapped (v₀ v₁ modulus : Nat) : (registerStream v₀ v₁ modulus).2 = !decide (v₀ ≤ v₁) := by
  unfold registerStream
  split <;> simp [*]

theorem streamFault_eq (volume : Nat) (wrapped : Bool) (qmax t : Nat) :
    streamFault volume wrapped qmax t =
      if qmax * t * 5 < volume * 18 then some (if wrapped then .regression else .overrange) else none := by
  simp [streamFault, incredible]

/-! ### Classification (R27 to R29) -/

section
variable {limit : Nat} {m : Meter} {b : Base} {r : ReadingRecord}

theorem classify_longGap (long : limit * 900 < r.time - b.time) : classify limit m b r = .gap .longGap := if_pos long

theorem classify_pulse (short : r.time - b.time ≤ limit * 900) (kind : m.kind = .pulse) :
    classify limit m b r = classifyPulse m b r := by
  simp [classify, Nat.not_lt.mpr short, kind]

theorem classify_register (short : r.time - b.time ≤ limit * 900) (kind : m.kind = .register) :
    classify limit m b r = classifyRegister m b r := by
  simp [classify, Nat.not_lt.mpr short, kind]

/-- R29: the sequence is tested before the volume, and a PULSE stream never wraps. -/
theorem classifyPulse_eq {q p : Nat} (base : b.sequence = some q) (sequence : r.sequence = some p) :
    classifyPulse m b r =
      if p = (q + 1) % 256 then
        if m.qmax * (r.time - b.time) * 5 < r.forward * m.unit * 18 then .gap .overrange
        else .accepted (r.forward * m.unit) 0
      else .gap .lostReports := by
  have next : nextSequence b = (q + 1) % 256 := by simp [nextSequence, base]
  by_cases follows : p = (q + 1) % 256
  · by_cases tooMuch : m.qmax * (r.time - b.time) * 5 < r.forward * m.unit * 18 <;>
      simp [classifyPulse, sequence, next, follows, streamFault_eq, tooMuch]
  · simp [classifyPulse, sequence, next, follows]

/-- R31: the forward stream is tested first. -/
theorem classifyRegister_forward {fault : MeterFault}
    (h : streamFault ((forwardStream m b r).1 * m.unit) (forwardStream m b r).2 m.qmax (r.time - b.time) = some fault) :
    classifyRegister m b r = .gap fault := by
  simp [classifyRegister, h]

/-- R31: the reverse stream is tested second. -/
theorem classifyRegister_reverse {fault : MeterFault}
    (forward : streamFault ((forwardStream m b r).1 * m.unit) (forwardStream m b r).2 m.qmax (r.time - b.time) = none)
    (h : streamFault ((reverseStream m b r).1 * m.unit) (reverseStream m b r).2 m.qmax (r.time - b.time) = some fault) :
    classifyRegister m b r = .gap fault := by
  simp [classifyRegister, forward, h]

theorem classifyRegister_accepted
    (forward : streamFault ((forwardStream m b r).1 * m.unit) (forwardStream m b r).2 m.qmax (r.time - b.time) = none)
    (reverse : streamFault ((reverseStream m b r).1 * m.unit) (reverseStream m b r).2 m.qmax (r.time - b.time) = none) :
    classifyRegister m b r = .accepted ((forwardStream m b r).1 * m.unit) ((reverseStream m b r).1 * m.unit) := by
  simp [classifyRegister, forward, reverse]

theorem forwardStream_eq {v₀ : Nat} (base : b.forward = some v₀) :
    forwardStream m b r = registerStream v₀ r.forward (10 ^ m.digits.getD 0) := by
  simp [forwardStream, base, Meter.modulus_eq]

theorem reverseStream_oneWay (flow : m.flow = .oneWay) : reverseStream m b r = (0, false) := by
  simp [reverseStream, flow]

theorem reverseStream_twoWay {u₀ u₁ : Nat} (flow : m.flow = .twoWay) (base : b.reverse = some u₀)
    (reading : r.reverse = some u₁) : reverseStream m b r = registerStream u₀ u₁ (10 ^ m.digits.getD 0) := by
  simp [reverseStream, flow, base, reading, Meter.modulus_eq]

end

/-- R31: the fault of a register stream that runs from `v₀` to `v₁`. -/
theorem registerStream_fault (v₀ v₁ modulus unit qmax t : Nat) :
    streamFault ((registerStream v₀ v₁ modulus).1 * unit) (registerStream v₀ v₁ modulus).2 qmax t =
      if qmax * t * 5 < (if v₀ ≤ v₁ then v₁ - v₀ else v₁ + modulus - v₀) * unit * 18 then
        some (if v₀ ≤ v₁ then .overrange else .regression)
      else none := by
  rw [streamFault_eq, registerStream_count, registerStream_wrapped]
  by_cases plain : v₀ ≤ v₁ <;> simp [plain]

/-- Settles O30: the length, then the sequence or the two register streams. -/
theorem intervalClassification : Obligations.IntervalClassification := by
  unfold Obligations.IntervalClassification
  intro limit m b r later t modulus volume tooMuch
  refine ⟨classify_longGap, fun short kind q p base sequence => ?_, fun short kind v₀ base => ?_⟩
  · rw [classify_pulse short kind, classifyPulse_eq base sequence]
    exact ⟨fun lost => if_neg lost, fun follows => if_pos follows⟩
  · rw [classify_register short kind]
    have forward := registerStream_fault v₀ r.forward modulus m.unit m.qmax t
    rw [← forwardStream_eq base] at forward
    have forwardVolume : (forwardStream m b r).1 * m.unit = volume v₀ r.forward := by
      rw [forwardStream_eq base, registerStream_count]
    refine ⟨fun fast => classifyRegister_forward (forward.trans (if_pos fast)), fun credible => ?_⟩
    have passes := forward.trans (if_neg credible)
    refine ⟨fun flow => ?_, fun flow u₀ u₁ base' reading => ?_⟩
    · have none : streamFault ((reverseStream m b r).1 * m.unit) (reverseStream m b r).2 m.qmax t = none := by
        simp [reverseStream_oneWay flow, streamFault_eq]
      rw [classifyRegister_accepted passes none, forwardVolume, reverseStream_oneWay flow, Nat.zero_mul]
    · have reverse := registerStream_fault u₀ u₁ modulus m.unit m.qmax t
      rw [← reverseStream_twoWay flow base' reading] at reverse
      by_cases fast : tooMuch (volume u₀ u₁)
      · exact (classifyRegister_reverse passes (reverse.trans (if_pos fast))).trans (if_pos fast).symm
      · rw [if_neg fast, classifyRegister_accepted passes (reverse.trans (if_neg fast)), forwardVolume,
          reverseStream_twoWay flow base' reading, registerStream_count]

/-! ### A gap (R33 to R35) -/

theorem NightState.isOpen_iff (n : NightState) : n.isOpen = true ↔ n = .pending ∨ n = .waiting := by
  cases n <;> simp [NightState.isOpen]

/-- R34: a gap overlaps the window of an open night. -/
theorem takeGap_eq (night : Option Night) (t₀ t₁ : Nat) (c : Cover) :
    c.takeGap night t₀ t₁ =
      { c with
        runStart := none
        faulted := c.faulted ||
          decide (∃ nt ∈ night, (nt.state = .pending ∨ nt.state = .waiting) ∧ t₀ < nt.we ∧ nt.ws < t₁) } := by
  cases night with
  | none => simp [Cover.takeGap, Cover.endRun]
  | some nt => simp [Cover.takeGap, Cover.endRun, overlaps, ← NightState.isOpen_iff]

/-- R21, R33: a record whose interval is a gap. -/
theorem takeRecord_gap {r : ReadingRecord} {s : State} {clock ch : Nat} {m : Meter} {b : Base} {fault : MeterFault}
    (set : s.clock = some clock) (found : s.meterBySerial r.serial = some (ch, m)) (ok : r.FieldsOk m)
    (notFuture : r.time ≤ clock + s.settings.skew) (base : m.base = some b) (later : b.time < r.time)
    (new : repeatOf m b r = none) (gap : classify s.settings.gapLimit m b r = .gap fault) :
    takeRecord r s = ⟨takeGap ch m b r fault s, .gap, fault.code⟩ := by
  rw [takeRecord_passes set found ok notFuture, againstBase_passes s base later.le new]
  simp [formInterval, gap]

/-- Settles O31: the record reaches its interval, and `gapMeter` is the record that the statement spells out. -/
theorem gapReadingMovesBase : Obligations.GapReadingMovesBase := by
  unfold Obligations.GapReadingMovesBase
  intro tag r clock ch m b fault s fits set found ok notFuture base later new gap takes hit
  have taken := takeRecord_gap (s := s.popIntake) set found ok notFuture base later new gap
  have after : gapMeter s.popIntake m b r fault =
      { m with
        base := some
          { time := r.time
            forward := if m.kind = MeterKind.register then some r.forward else none
            reverse := if m.flow = Flow.twoWay then r.reverse else none
            sequence := if m.kind = MeterKind.pulse then r.sequence else none }
        state := .live
        lastFault := some (fault, r.time)
        fromCover := m.fromCover.map fun (c : Cover) => { c with runStart := none, faulted := c.faulted || hit m.fromZone }
        toCover := m.toCover.map fun (c : Cover) => { c with runStart := none, faulted := c.faulted || hit m.toZone } } := by
    unfold gapMeter
    rw [baseFrom_eq, funext (takeGap_eq _ _ _), funext (takeGap_eq _ _ _)]
    rfl
  rw [exec_reading fits takes, taken, takeGap, after, offerFault_eq]
  rfl

end Sys2Proof.Machine
end

section
/-! SUPPORT. The Reading Intake and the Close Engine are blind to the link: of the Link Interface they read and write the
notice queue and the overflow marker alone. -/

namespace Sys2Proof.Machine

/-! ### The state under another link -/

/-- The state with everything of the link replaced, but for the notice queue and the overflow marker. -/
def State.relinked (s : State) (l : Link) : State :=
  { s with link := { l with notices := s.link.notices, overflow := s.link.overflow } }

/-- A change of the state that neither reads nor writes what `relinked` replaces. -/
def LinkBlind (f : State → State) : Prop := ∀ s l, f (s.relinked l) = (f s).relinked l

/-- Two states with the same link, but for the notice queue and the overflow marker. -/
abbrev SameLink (s t : State) : Prop := ∃ notices overflow, t.link = { s.link with notices := notices, overflow := overflow }

/-- A blind change leaves all of the link but the notice queue and the overflow marker. -/
theorem LinkBlind.sameLink {f : State → State} (h : LinkBlind f) (s : State) : SameLink s (f s) := by
  have link : (f s).link = ((f s).relinked s.link).link := congrArg State.link (h s s.link)
  exact ⟨_, _, link⟩

theorem SameLink.trans {s t u : State} (h : SameLink s t) (k : SameLink t u) : SameLink s u := by
  obtain ⟨_, _, h⟩ := h
  obtain ⟨n, o, k⟩ := k
  exact ⟨n, o, by rw [k, h]⟩

/-! ### What does not read the link -/

section
variable (s : State) (l : Link)

@[simp] theorem relinked_clock : (s.relinked l).clock = s.clock := rfl
@[simp] theorem relinked_now : (s.relinked l).now = s.now := rfl
@[simp] theorem relinked_settings : (s.relinked l).settings = s.settings := rfl
@[simp] theorem relinked_zone (z : Nat) : (s.relinked l).zone z = s.zone z := rfl
@[simp] theorem relinked_meter (ch : Nat) : (s.relinked l).meter? ch = s.meter? ch := rfl
@[simp] theorem relinked_meterBySerial (serial : Nat) : (s.relinked l).meterBySerial serial = s.meterBySerial serial := rfl
@[simp] theorem relinked_group (g : Nat) : (s.relinked l).group g = s.group g := rfl
@[simp] theorem relinked_inFuture (time : Nat) : inFuture (s.relinked l) time = inFuture s time := rfl
@[simp] theorem relinked_changedGroups (z : Nat) : changedGroups z (s.relinked l) = changedGroups z s := rfl
@[simp] theorem relinked_groupNotice (g : Nat) : groupNotice (s.relinked l) g = groupNotice s g := rfl
@[simp] theorem relinked_figuresOf (z : Nat) (nt : Night) (p : Params) :
    figuresOf (s.relinked l) z nt p = figuresOf s z nt p := rfl
@[simp] theorem relinked_completedZones (m : Meter) : completedZones (s.relinked l) m = completedZones s m := rfl
@[simp] theorem relinked_intervalDrops (iv : Interval) : intervalDrops iv (s.relinked l) = intervalDrops iv s := rfl

theorem relinked_auditList (z : Nat) (es : List Attachment) : auditList (s.relinked l) z es = auditList s z es := by
  induction es with
  | nil => rfl
  | cons e rest ih =>
    simp only [auditList, relinked_meter, ih]

theorem relinked_audit : audit (s.relinked l) = audit s := by
  have zone (z : Nat) : auditZone (s.relinked l) z = auditZone s z := by
    simp [auditZone, relinked_auditList]
  simp only [audit, funext zone]

theorem relinked_failingMeter (test : Nat) : failingMeter test (s.relinked l) = failingMeter test s := by
  rw [failingMeter, relinked_audit, failingMeter]

@[simp] theorem relinked_outcomeOf (test : Nat) : outcomeOf test (s.relinked l) = outcomeOf test s := by
  rw [outcomeOf, relinked_failingMeter, outcomeOf]
@[simp] theorem relinked_resultOf (test : Nat) : resultOf test (s.relinked l) = resultOf test s := by
  rw [resultOf, relinked_failingMeter, relinked_outcomeOf, relinked_clock, resultOf]

@[simp] theorem relinked_closeReady : closeReady (s.relinked l) = closeReady s := rfl
@[simp] theorem relinked_testReady : testReady (s.relinked l) = testReady s := rfl
@[simp] theorem relinked_closeInService : closeInService (s.relinked l) = closeInService s := rfl
@[simp] theorem relinked_testInService : testInService (s.relinked l) = testInService s := rfl

/-! ### The shared operations -/

@[simp] theorem updZone_relinked (z : Nat) (f : Zone → Zone) :
    (s.relinked l).updZone z f = (s.updZone z f).relinked l := rfl
@[simp] theorem setZone_relinked (z : Nat) (v : Zone) : (s.relinked l).setZone z v = (s.setZone z v).relinked l := rfl
@[simp] theorem setMeter_relinked (ch : Nat) (m : Meter) : (s.relinked l).setMeter ch m = (s.setMeter ch m).relinked l := rfl
@[simp] theorem offerFault_relinked (k : FaultKind) (serial zone : Option Nat) (time : Nat) :
    (s.relinked l).offerFault k serial zone time = (s.offerFault k serial zone time).relinked l := rfl
@[simp] theorem raise_relinked (n : Notice) : (s.relinked l).raise n = (s.raise n).relinked l := rfl
@[simp] theorem queueNight_relinked (z : Nat) (cause : CloseCause) :
    queueNight z cause (s.relinked l) = (queueNight z cause s).relinked l := rfl
@[simp] theorem recomputeGroup_relinked (g : Nat) : recomputeGroup (s.relinked l) g = (recomputeGroup s g).relinked l := rfl
@[simp] theorem idle_relinked : ({ s.relinked l with engine := none } : State) = { s with engine := none }.relinked l := rfl

@[simp] theorem updMeter_relinked (ch : Nat) (f : Meter → Meter) :
    (s.relinked l).updMeter ch f = (s.updMeter ch f).relinked l := by
  unfold State.updMeter
  rw [relinked_meter]
  cases s.meter? ch <;> rfl

@[simp] theorem raiseIf_relinked (b : Bool) (n : Notice) : (s.relinked l).raiseIf b n = (s.raiseIf b n).relinked l := by
  cases b <;> rfl

theorem foldl_relinked {α : Type} {f : State → α → State} (h : ∀ s a, f (s.relinked l) a = (f s a).relinked l)
    (as : List α) : as.foldl f (s.relinked l) = (as.foldl f s).relinked l := by
  induction as generalizing s with
  | nil => rfl
  | cons a rest ih => rw [List.foldl_cons, h, ih, List.foldl_cons]

@[simp] theorem updAttachedCovers_relinked (z : Nat) (f : Cover → Cover) :
    (s.relinked l).updAttachedCovers z f = (s.updAttachedCovers z f).relinked l :=
  foldl_relinked s l (fun s e => updMeter_relinked s l e.channel _) _

@[simp] theorem createNight_relinked (z : Nat) (survey : Bool) :
    createNight z survey (s.relinked l) = (createNight z survey s).relinked l := by
  simp [createNight]

@[simp] theorem freeNight_relinked (z : Nat) : freeNight z (s.relinked l) = (freeNight z s).relinked l := by
  simp [freeNight]

@[simp] theorem recomputeGroups_relinked (z : Nat) : recomputeGroups z (s.relinked l) = (recomputeGroups z s).relinked l :=
  foldl_relinked s l (fun s g => recomputeGroup_relinked s l g) _

@[simp] theorem raiseGroupChanges_relinked (gs : List Nat) :
    raiseGroupChanges gs (s.relinked l) = (raiseGroupChanges gs s).relinked l :=
  foldl_relinked s l (fun s g => by simp) _

@[simp] theorem offerCauses_relinked (z : Nat) (causes : CauseSet) :
    offerCauses z causes (s.relinked l) = (offerCauses z causes s).relinked l :=
  foldl_relinked s l (f := fun s c => s.offerFault (.zoneCause c) none (some z) s.now) (fun _ _ => rfl) _

/-! ### The Close Engine -/

@[simp] theorem stageCauses_relinked (c : CloseItem) (f : Figures) :
    stageCauses c f (s.relinked l) = (stageCauses c f s).relinked l := by
  simp [stageCauses]

@[simp] theorem stageNotices_relinked (c : CloseItem) (f : Figures) (v : Verdict) (before : MonitorState) (newly : CauseSet)
    (changed : List Nat) :
    stageNotices c f v before newly changed (s.relinked l) = (stageNotices c f v before newly changed s).relinked l := by
  simp [stageNotices]

@[simp] theorem stageFree_relinked (c : CloseItem) : stageFree c (s.relinked l) = (stageFree c s).relinked l := by
  simp [stageFree]

@[simp] theorem stageNext_relinked (c : CloseItem) : stageNext c (s.relinked l) = (stageNext c s).relinked l := by
  unfold stageNext
  split <;> simp_all

/-- R81: the stages of a completion that is not voided, before the engine returns to IDLE. -/
def stagesOf (c : CloseItem) (s : State) : State :=
  let f := figuresOf s c.zone c.night c.captured
  let s3 := stageCauses c f s
  let v := verdictOf (s3.zone c.zone) c f
  let s6 := stageHistory c f v (stagePublish c f v (stageJudge c v s3))
  stageNext c (stageFree c (stageNotices c f v (s.zone c.zone).monitor (newlyHeld (s.zone c.zone) (s3.zone c.zone))
    (changedGroups c.zone s6) (recomputeGroups c.zone s6)))

theorem completeClose_eq (c : CloseItem) :
    completeClose c s = { (if c.void then s else stagesOf c s) with engine := none } := by
  unfold completeClose
  split <;> rfl

theorem stagesOf_relinked (c : CloseItem) : stagesOf c (s.relinked l) = (stagesOf c s).relinked l := by
  simp [stagesOf, stageJudge, stagePublish, stageHistory]

theorem completeClose_relinked (c : CloseItem) : completeClose c (s.relinked l) = (completeClose c s).relinked l := by
  have same : (if c.void then s.relinked l else (stagesOf c s).relinked l) = (if c.void then s else stagesOf c s).relinked l := by
    split <;> rfl
  rw [completeClose_eq, completeClose_eq, stagesOf_relinked, same]
  exact idle_relinked _ l

theorem completeTest_relinked (test : Nat) : completeTest test (s.relinked l) = (completeTest test s).relinked l := by
  simp only [completeTest, relinked_outcomeOf, relinked_resultOf, raise_relinked]
  rfl

/-- One event of the engine does not depend on the link. -/
theorem engineEvent_relinked : engineEvent (s.relinked l) = (engineEvent s).relinked l := by
  unfold engineEvent
  simp only [relinked_closeInService, relinked_testInService, relinked_closeReady, relinked_testReady]
  split
  · exact completeClose_relinked s l _
  · exact completeTest_relinked s l _
  · rfl
  · rfl
  · rfl

theorem engineEvents_relinked (k : Nat) : engineEvents k (s.relinked l) = (engineEvents k s).relinked l := by
  induction k generalizing s with
  | zero => rfl
  | succ k ih => simp only [engineEvents, engineEvent_relinked, ih]

/-! ### The Reading Intake -/

@[simp] theorem takeSide_relinked (iv : Interval) (side : Side) :
    takeSide iv side (s.relinked l) = (takeSide iv side s).relinked l := by
  unfold takeSide
  rw [relinked_meter]
  cases s.meter? iv.channel with
  | none => rfl
  | some m => by_cases outside : m.zoneOn side = 0 <;> simp [outside]

@[simp] theorem apportion_relinked (iv : Interval) : apportion iv (s.relinked l) = (apportion iv s).relinked l := by
  unfold apportion
  rw [relinked_meter]
  cases s.meter? iv.channel with
  | none => rfl
  | some m =>
    simp only [takeSide_relinked, relinked_completedZones]
    exact foldl_relinked _ l (fun s z => queueNight_relinked s l z _) _

theorem moveBase_relinked (ch : Nat) (r : ReadingRecord) : moveBase ch r (s.relinked l) = (moveBase ch r s).relinked l :=
  updMeter_relinked s l ch _

/-- What a record draws, under another link. -/
def RecordAnswer.relinked (a : RecordAnswer) (l : Link) : RecordAnswer := { a with state := a.state.relinked l }

theorem formInterval_relinked (ch : Nat) (m : Meter) (b : Base) (r : ReadingRecord) :
    formInterval ch m b r (s.relinked l) = (formInterval ch m b r s).relinked l := by
  unfold formInterval
  rw [relinked_settings]
  cases classify s.settings.gapLimit m b r with
  | gap f => rfl
  | accepted forward reverse =>
    simp only [apportion_relinked, moveBase_relinked, relinked_intervalDrops]
    rfl

theorem againstBase_relinked (ch : Nat) (m : Meter) (r : ReadingRecord) :
    againstBase ch m r (s.relinked l) = (againstBase ch m r s).relinked l := by
  unfold againstBase
  split
  · rw [moveBase_relinked]
    rfl
  · split
    · rfl
    · split
      · rfl
      · exact formInterval_relinked s l ch m _ r

/-- R21: what a reading record draws does not depend on the link. -/
theorem takeRecord_relinked (r : ReadingRecord) : takeRecord r (s.relinked l) = (takeRecord r s).relinked l := by
  unfold takeRecord
  rw [relinked_clock, relinked_meterBySerial, relinked_inFuture]
  cases s.clock with
  | none => rfl
  | some clock =>
    cases s.meterBySerial r.serial with
    | none => rfl
    | some found =>
      obtain ⟨ch, m⟩ := found
      cases fault : recordFault m r with
      | some field => simp [fault, RecordAnswer.relinked]
      | none =>
        cases future : inFuture s r.time with
        | true => simp [fault, RecordAnswer.relinked]
        | false => simpa [fault] using againstBase_relinked s l ch m r

end

theorem takeRecords_cons (r : ReadingRecord) {rest : List ReadingRecord} (more : rest ≠ []) (events : List Nat) (s : State) :
    takeRecords (r :: rest) events s =
      ((takeRecords rest events.tail (engineEvents (events.headD 0) (takeRecord r s).state)).1,
        batchEntry (takeRecord r s) ++
          (takeRecords rest events.tail (engineEvents (events.headD 0) (takeRecord r s).state)).2) := by
  rw [takeRecords]
  exact more

/-- R20: nor does what the records of a batch do and draw. -/
theorem takeRecords_relinked (rs : List ReadingRecord) (events : List Nat) (s : State) (l : Link) :
    takeRecords rs events (s.relinked l) =
      ((takeRecords rs events s).1.relinked l, (takeRecords rs events s).2) := by
  induction rs, events, s using takeRecords.induct with
  | case1 events s => rfl
  | case2 r events s =>
    simp only [takeRecords, takeRecord_relinked]
    rfl
  | case3 r rest events s more a ih =>
    have next : engineEvents (events.headD 0) (takeRecord r (s.relinked l)).state =
        (engineEvents (events.headD 0) (takeRecord r s).state).relinked l := by
      rw [takeRecord_relinked]
      exact engineEvents_relinked _ l _
    rw [takeRecords_cons r more, takeRecords_cons r more, next, ih, takeRecord_relinked]
    rfl

/-! ### What of the link they keep -/

theorem linkBlind_takeRecord (r : ReadingRecord) : LinkBlind fun s => (takeRecord r s).state := fun s l =>
  congrArg RecordAnswer.state (takeRecord_relinked s l r)

theorem linkBlind_engineEvents (k : Nat) : LinkBlind (engineEvents k) := fun s l => engineEvents_relinked s l k

theorem linkBlind_takeRecords (rs : List ReadingRecord) (events : List Nat) :
    LinkBlind fun s => (takeRecords rs events s).1 := fun s l => congrArg Prod.fst (takeRecords_relinked rs events s l)

end Sys2Proof.Machine
end

section
/-! SUPPORT. READING_BATCH (R20): what one answers, the engine events between its records, and how a batch falls apart into its
first record and the rest. -/

namespace Sys2Proof.Machine

/-! ### The engine's next event (R75, R79) -/

section
variable {s : State}

theorem closeInService_some {c : CloseItem} : closeInService s = some c ↔ s.engine = some (.close c) := by
  unfold closeInService
  split <;> simp_all

theorem testInService_engine {test : Nat} (h : testInService s = some test) : s.engine = some .testRun := by
  unfold testInService at h
  split at h
  · assumption
  · cases h

theorem closeReady_idle {z : Nat} {nt : Night} (h : closeReady s = some (z, nt)) :
    s.engine = none ∧ s.closeQueue.head? = some (.zone z) := by
  unfold closeReady at h
  split at h
  · next idle queue =>
    obtain ⟨nt', -, e⟩ := Option.map_eq_some_iff.mp h
    cases e
    simp [idle, queue]
  · cases h

theorem testReady_idle {test : Nat} (h : testReady s = some test) :
    s.engine = none ∧ s.closeQueue.head? = some .test := by
  unfold testReady at h
  split at h
  · next idle queue _ => simp [idle, queue]
  · cases h

theorem closeInService_none (h : ∀ c, s.engine ≠ some (.close c)) : closeInService s = none :=
  Option.eq_none_iff_forall_ne_some.mpr fun c hc => h c (closeInService_some.mp hc)

theorem testInService_none (h : s.engine ≠ some .testRun) : testInService s = none :=
  Option.eq_none_iff_forall_ne_some.mpr fun _ ht => h (testInService_engine ht)

theorem engineEvent_closeCompletion {c : CloseItem} (h : closeInService s = some c) : engineEvent s = completeClose c s := by
  simp [engineEvent, h]

theorem engineEvent_testCompletion {test : Nat} (h : testInService s = some test) : engineEvent s = completeTest test s := by
  have noClose : closeInService s = none := closeInService_none (by simp [testInService_engine h])
  simp [engineEvent, noClose, h]

theorem engineEvent_closeStart {z : Nat} {nt : Night} (h : closeReady s = some (z, nt)) :
    engineEvent s = startClose z nt s := by
  obtain ⟨idle, -⟩ := closeReady_idle h
  simp [engineEvent, closeInService_none (s := s) (by simp [idle]), testInService_none (s := s) (by simp [idle]), h]

theorem engineEvent_testStart {test : Nat} (h : testReady s = some test) : engineEvent s = startTest test s := by
  obtain ⟨idle, head⟩ := testReady_idle h
  have noClose : closeReady s = none := by
    refine Option.eq_none_iff_forall_ne_some.mpr fun e he => ?_
    have := (closeReady_idle (z := e.1) (nt := e.2) he).2
    simp [head] at this
  simp [engineEvent, closeInService_none (s := s) (by simp [idle]), testInService_none (s := s) (by simp [idle]), noClose, h]

theorem engineEvent_none (close : closeInService s = none) (test : testInService s = none) (closeStart : closeReady s = none)
    (testStart : testReady s = none) : engineEvent s = s := by
  simp [engineEvent, close, test, closeStart, testStart]

/-! ### The four engine commands -/

theorem running_of_runs (runs : Runs s) : s.running = true := by
  obtain ⟨ready, unheld⟩ := runs
  simp [State.running, ready, unheld]

theorem exec_closeCompletion (runs : Runs s) :
    exec .closeCompletion s = .next ((closeInService s).elim s fun c => completeClose c s) := by
  show execCloseCompletion s = _
  rw [execCloseCompletion, if_pos (running_of_runs runs)]
  cases closeInService s <;> rfl

theorem exec_testRunCompletion (runs : Runs s) :
    exec .testRunCompletion s = .next ((testInService s).elim s fun test => completeTest test s) := by
  show execTestRunCompletion s = _
  rw [execTestRunCompletion, if_pos (running_of_runs runs)]
  cases testInService s <;> rfl

theorem exec_closeStart (runs : Runs s) :
    exec .closeStart s = .next ((closeReady s).elim s fun e => startClose e.1 e.2 s) := by
  show execCloseStart s = _
  rw [execCloseStart, if_pos (running_of_runs runs)]
  cases closeReady s <;> rfl

theorem exec_testRunStart (runs : Runs s) :
    exec .testRunStart s = .next ((testReady s).elim s fun test => startTest test s) := by
  show execTestRunStart s = _
  rw [execTestRunStart, if_pos (running_of_runs runs)]
  cases testReady s <;> rfl

section
variable {α : Type} {c : Instr} {o : Option α} {f : α → State}

/-- An engine command that can occur does what the engine's next event does. -/
theorem exec_event_of_some (runs : exec c s = .next (o.elim s f)) (event : ∀ a, o = some a → engineEvent s = f a) {a : α}
    (occurs : o = some a) : exec c s = .next (engineEvent s) := by
  rw [runs, event a occurs, occurs]
  rfl

theorem event_of_exec_moves (runs : exec c s = .next (o.elim s f)) (event : ∀ a, o = some a → engineEvent s = f a) {u : State}
    (e : exec c s = .next u) (moved : u ≠ s) : u = engineEvent s := by
  rw [runs] at e
  injection e with e
  cases o with
  | none => exact absurd e.symm moved
  | some a => exact e.symm.trans (event a rfl).symm

end

/-- R20, log 7: one of the four engine commands does what the engine's next event does. -/
theorem exists_exec_engineEvent (runs : Runs s) :
    ∃ c ∈ [Instr.closeStart, .testRunStart, .closeCompletion, .testRunCompletion], exec c s = .next (engineEvent s) := by
  cases close : closeInService s with
  | some c =>
    exact ⟨.closeCompletion, by simp,
      exec_event_of_some (exec_closeCompletion runs) (fun _ => engineEvent_closeCompletion) close⟩
  | none =>
    cases test : testInService s with
    | some n =>
      exact ⟨.testRunCompletion, by simp,
        exec_event_of_some (exec_testRunCompletion runs) (fun _ => engineEvent_testCompletion) test⟩
    | none =>
      cases closeStart : closeReady s with
      | some e =>
        exact ⟨.closeStart, by simp, exec_event_of_some (exec_closeStart runs) (fun _ => engineEvent_closeStart) closeStart⟩
      | none =>
        cases testStart : testReady s with
        | some n =>
          exact ⟨.testRunStart, by simp,
            exec_event_of_some (exec_testRunStart runs) (fun _ => engineEvent_testStart) testStart⟩
        | none =>
          refine ⟨.closeStart, by simp, ?_⟩
          rw [exec_closeStart runs, engineEvent_none close test closeStart testStart, closeStart]
          rfl

/-- No engine command does anything else. -/
theorem exec_engine_moves (runs : Runs s) {c : Instr}
    (hc : c ∈ [Instr.closeStart, .testRunStart, .closeCompletion, .testRunCompletion]) {u : State} (e : exec c s = .next u)
    (moved : u ≠ s) : u = engineEvent s := by
  simp only [List.mem_cons, List.not_mem_nil, or_false] at hc
  rcases hc with rfl | rfl | rfl | rfl
  · exact event_of_exec_moves (exec_closeStart runs) (fun _ => engineEvent_closeStart) e moved
  · exact event_of_exec_moves (exec_testRunStart runs) (fun _ => engineEvent_testStart) e moved
  · exact event_of_exec_moves (exec_closeCompletion runs) (fun _ => engineEvent_closeCompletion) e moved
  · exact event_of_exec_moves (exec_testRunCompletion runs) (fun _ => engineEvent_testCompletion) e moved

end

/-! ### What a batch answers -/

theorem batchEntry_length (a : RecordAnswer) : (batchEntry a).length = 2 := by simp [batchEntry]

/-- R20: one entry for each record. -/
theorem takeRecords_entries (rs : List ReadingRecord) (events : List Nat) (s : State) :
    (takeRecords rs events s).2.length = 2 * rs.length := by
  induction rs, events, s using takeRecords.induct with
  | case1 events s => rfl
  | case2 r events s => exact batchEntry_length _
  | case3 r rest events s more a ih =>
    rw [takeRecords_cons r more, List.length_append, batchEntry_length, ih, List.length_cons]
    omega

/-- What a taken READING_BATCH answers. -/
theorem exec_readingBatch {tag : Byte} {rs : List ReadingRecord} {events : List Nat} {s : State} (low : 1 ≤ rs.length)
    (high : rs.length ≤ 16) (fits : ∀ r ∈ rs, r.Fits) (takes : Takes s 0x11 tag (putBatch rs)) :
    exec (.readingBatch tag (putBatch rs) events) s =
      .next ((takeRecords rs events s.popIntake).1.replied 0x11 tag .ok (takeRecords rs events s.popIntake).2) := by
  have answer : batchAnswer ⟨rs.length, rs⟩ events s.popIntake =
      okWith (takeRecords rs events s.popIntake).1 (takeRecords rs events s.popIntake).2 := by
    simp [batchAnswer, batchCountOk, low, high]
  exact serve_answer (owner := fun b s => batchAnswer b events s) takes (parseBatch_put low high fits) answer

/-- R20: a count outside 1 to 16 is refused, whatever follows it. -/
theorem exec_readingBatch_count {tag : Byte} {n : Nat} {p : List Byte} {events : List Nat} {s : State} (small : n < 256)
    (bad : n = 0 ∨ 16 < n) (takes : Takes s 0x11 tag (putNat 1 n ++ p)) :
    exec (.readingBatch tag (putNat 1 n ++ p) events) s = .next (s.popIntake.replied 0x11 tag .badField (putNat 1 1)) := by
  have refused : batchCountOk n = false := by
    simp only [batchCountOk, Bool.and_eq_false_iff, decide_eq_false_iff_not]
    omega
  have count : fieldAt (putNat 1 n ++ p) 0 1 = n := by simp (disch := omega) [fieldAt]
  have parsed : parseBatch (putNat 1 n ++ p) = some ⟨n, []⟩ := by
    simp [parseBatch, count, refused]
  exact serve_answer (owner := fun b s => batchAnswer b events s) takes parsed (by simp [batchAnswer, refused]; rfl)

theorem popIntake_of_nil {s : State} (empty : s.link.intake = []) : s.popIntake = s := by
  obtain ⟨_, ⟨_, _, _, intake, _, _, _, _, _⟩⟩ := s
  cases empty
  rfl

theorem popIntake_relinked (s : State) {l : Link} (empty : l.intake = []) : (s.relinked l).popIntake = s.relinked l :=
  popIntake_of_nil (s := s.relinked l) empty

/-- R20: a batch of one record does what a READING does. -/
theorem readingBatch_one {tag : Byte} {r : ReadingRecord} {events : List Nat} {s t u : State} {p : Reply} (fits : r.Fits)
    (runs : Runs s) (empty : s.link.intake = []) (reading : exec (.reading tag (putRecord r)) s = .next t)
    (replied : t.link.reply = some p) (batch : exec (.readingBatch tag (putBatch [r]) events) s = .next u) :
    { u with link := t.link } = t ∧ u.link = { t.link with reply := u.link.reply } ∧
      ∃ reply, u.link.reply = some reply ∧ reply.body = putNat 1 p.code.code ++ p.body := by
  obtain ⟨ready, unheld⟩ := runs
  rw [exec_reading fits ⟨ready, unheld, .inl empty⟩, popIntake_of_nil empty] at reading
  rw [exec_readingBatch (by simp) (by simp) (by simpa using fits) ⟨ready, unheld, .inl empty⟩, popIntake_of_nil empty,
    takeRecords] at batch
  cases reading
  cases batch
  cases replied
  exact ⟨rfl, rfl, _, rfl, rfl⟩

/-- A reply built over the link that an earlier reply left differs from one built without it in the reply alone. -/
theorem replied_link_of_sameLink {s t : State} (same : SameLink s t) (kind₁ tag₁ kind tag : Byte)
    (code₁ code₂ code : ReplyCode) (body₁ body₂ body : List Byte) :
    (t.replied kind tag code body).link =
      { ((t.relinked (s.replied kind₁ tag₁ code₁ body₁).link).replied kind tag code₂ body₂).link with
        reply := (t.replied kind tag code body).link.reply } := by
  obtain ⟨_, _, link⟩ := same
  simp [State.replied, State.relinked, link]

/-- R20: a longer batch does what a READING of its first record, the engine events after it and a batch of the rest do. -/
theorem readingBatch_cons {tag : Byte} {r : ReadingRecord} {rs : List ReadingRecord} {k : Nat} {ks : List Nat}
    {s t₁ t₂ t : State} {p₁ p₂ : Reply} (fits : r.Fits) (others : ∀ r' ∈ rs, r'.Fits) (low : 1 ≤ rs.length)
    (high : rs.length ≤ 15) (runs : Runs s) (empty : s.link.intake = [])
    (reading : exec (.reading tag (putRecord r)) s = .next t₁) (replied₁ : t₁.link.reply = some p₁)
    (rest : exec (.readingBatch tag (putBatch rs) ks) (engineEvents k t₁) = .next t₂)
    (replied₂ : t₂.link.reply = some p₂)
    (batch : exec (.readingBatch tag (putBatch (r :: rs)) (k :: ks)) s = .next t) :
    { t with link := t₂.link } = t₂ ∧ t.link = { t₂.link with reply := t.link.reply } ∧
      ∃ reply, t.link.reply = some reply ∧ reply.body = putNat 1 p₁.code.code ++ p₁.body ++ p₂.body := by
  obtain ⟨ready, unheld⟩ := runs
  rw [exec_reading fits ⟨ready, unheld, .inl empty⟩, popIntake_of_nil empty] at reading
  rw [exec_readingBatch (by simp) (by simp; omega) (List.forall_mem_cons.mpr ⟨fits, others⟩) ⟨ready, unheld, .inl empty⟩,
    popIntake_of_nil empty, takeRecords_cons r (by rintro rfl; simp at low)] at batch
  have kept₁ : SameLink s (takeRecord r s).state := (linkBlind_takeRecord r).sameLink s
  have kept₂ : SameLink (takeRecord r s).state (takeRecords rs ks (engineEvents k (takeRecord r s).state)).1 :=
    ((linkBlind_engineEvents k).sameLink _).trans ((linkBlind_takeRecords rs ks).sameLink _)
  cases reading
  cases batch
  cases replied₁
  obtain ⟨_, _, link₁⟩ := kept₁
  let l := ((takeRecord r s).state.replied 0x10 tag (takeRecord r s).code (putNat 1 (takeRecord r s).detail)).link
  have free : l.power = .ready ∧ l.restart = none ∧ l.intake = [] := by simp [l, link₁, ready, unheld, empty]
  obtain ⟨power, restart, intake⟩ := free
  have shift : engineEvents k ((takeRecord r s).state.replied 0x10 tag (takeRecord r s).code (putNat 1 (takeRecord r s).detail)) =
      (engineEvents k (takeRecord r s).state).relinked l := engineEvents_relinked (takeRecord r s).state l k
  have takes : Takes ((engineEvents k (takeRecord r s).state).relinked l) 0x11 tag (putBatch rs) :=
    ⟨power, restart, .inl intake⟩
  rw [shift, exec_readingBatch low (by omega) others takes, popIntake_relinked _ intake, takeRecords_relinked] at rest
  cases rest
  cases replied₂
  exact ⟨rfl, replied_link_of_sameLink kept₂ .., _, rfl, rfl⟩

/-- Settles O34: a batch splits off its first record, and what follows is blind to the reply that a READING would leave. -/
theorem batchTakesRecordsInOrder : Obligations.BatchTakesRecordsInOrder := by
  unfold Obligations.BatchTakesRecordsInOrder
  refine ⟨?_, fun tag r events s t u p => readingBatch_one, fun tag r rs k ks s t₁ t₂ t p₁ p₂ => readingBatch_cons,
    fun s => ⟨rfl, fun k => rfl⟩, fun s runs => ⟨exists_exec_engineEvent runs, fun c hc u => exec_engine_moves runs hc⟩,
    fun tag n p events s => exec_readingBatch_count⟩
  intro tag rs events s low high fits takes
  exact ⟨_, exec_readingBatch low high fits takes, _, rfl, rfl, takeRecords_entries rs events _⟩

end Sys2Proof.Machine
end

section
/-! SUPPORT. An accepted interval (Chapter 4): what it does to the cover records, the nights, the close queue and the drops. -/

namespace Sys2Proof.Machine

/-! ### Portions (R60, R61) -/

theorem cumShare_mono (volume t₀ t₁ : Nat) {x y : Nat} (h : x ≤ y) :
    cumShare volume t₀ t₁ x ≤ cumShare volume t₀ t₁ y := by
  have clip : clipTime t₀ t₁ x ≤ clipTime t₀ t₁ y := by
    unfold clipTime
    omega
  exact Nat.div_le_div_right (Nat.mul_le_mul_left volume clip)

theorem portion_int (volume t₀ t₁ ws j : Nat) :
    (portion volume t₀ t₁ ws j : Int) =
      (cumShare volume t₀ t₁ (slotEnd ws j) : Int) - cumShare volume t₀ t₁ (slotStart ws j) := by
  have rises : slotStart ws j ≤ slotEnd ws j := by
    unfold slotStart slotEnd slotSeconds
    omega
  exact Int.ofNat_sub (cumShare_mono volume t₀ t₁ rises)

theorem addPortions_slots (nt : Night) (iv : Interval) (side : Side) :
    (nt.addPortions iv side).slots = nt.slots.mapIdx fun j a =>
      if side = .toSide then a + netPortion iv nt.ws j else a - netPortion iv nt.ws j := by
  cases side <;> simp [Night.addPortions, signedFor, Int.sub_eq_add_neg]

/-! ### Cover records (R65, R66) -/

theorem slotWithin_iff (ws start finish j : Nat) :
    slotWithin ws start finish j = true ↔ start ≤ ws + 900 * j ∧ ws + 900 * (j + 1) ≤ finish := by
  rw [slotWithin, Bool.and_eq_true, decide_eq_true_eq, decide_eq_true_eq]
  rfl

/-- R66: the mask's flags are those that were set, and those of the window's slots within the run. -/
theorem markSlots_getLsbD (n ws start finish : Nat) (mask : BitVec 16) {j : Nat} (h : j < 16) :
    (markSlots n ws start finish mask).getLsbD j = true ↔
      mask.getLsbD j = true ∨ (j < n ∧ slotWithin ws start finish j = true) := by
  have marked (l : List Nat) (mask : BitVec 16) :
      (l.foldl (fun m j => if slotWithin ws start finish j then m ||| BitVec.twoPow 16 j else m) mask).getLsbD j = true ↔
        mask.getLsbD j = true ∨ (j ∈ l ∧ slotWithin ws start finish j = true) := by
    induction l generalizing mask with
    | nil => simp
    | cons i rest ih =>
      rw [List.foldl_cons, ih, List.mem_cons]
      by_cases here : j = i
      · subst here
        by_cases within : slotWithin ws start finish j = true <;> simp [within, h]
      · by_cases within : slotWithin ws start finish i = true <;> simp [within, here, Ne.symm here]
  rw [markSlots, marked, List.mem_range]

/-- R65, R66: a cover record after an accepted interval. -/
theorem extendCover_spec (night : Option Night) (t₀ t₁ : Nat) (c : Cover) :
    (extendCover night t₀ t₁ c).runStart = some (c.runStart.getD t₀) ∧ (extendCover night t₀ t₁ c).runEnd = t₁ ∧
      (extendCover night t₀ t₁ c).faulted = c.faulted ∧
      ∀ j, j < 16 → ((extendCover night t₀ t₁ c).mask.getLsbD j = true ↔ c.mask.getLsbD j = true ∨
        ∃ nt ∈ night, (nt.state = .pending ∨ nt.state = .waiting) ∧ j < nt.length ∧
          c.runStart.getD t₀ ≤ nt.ws + 900 * j ∧ nt.ws + 900 * (j + 1) ≤ t₁) := by
  refine ⟨rfl, rfl, rfl, fun j small => ?_⟩
  cases night with
  | none => simp [extendCover]
  | some nt =>
    by_cases isOpen : nt.state.isOpen = true
    · simp [extendCover, isOpen, markSlots_getLsbD _ _ _ _ _ small, slotWithin_iff, ← NightState.isOpen_iff]
    · simp [extendCover, isOpen, ← NightState.isOpen_iff]

theorem updCover_of_none {m : Meter} {side : Side} (h : m.coverOn side = none) (f : Cover → Cover) : m.updCover side f = m := by
  obtain ⟨⟩ := m
  cases side <;> simp_all [Meter.updCover, Meter.coverOn]

/-! ### One side (R59) -/

theorem takePortions_open {zn : Zone} {nt : Night} (night : zn.night = some nt) (isOpen : nt.state.isOpen = true)
    (iv : Interval) (side : Side) : zn.takePortions iv side = { zn with night := some (nt.addPortions iv side) } := by
  simp [Zone.takePortions, night, isOpen]

theorem takePortions_frozen {zn : Zone} (frozen : ∀ nt ∈ zn.night, nt.state.isOpen = false) (iv : Interval) (side : Side) :
    zn.takePortions iv side = zn := by
  unfold Zone.takePortions
  split
  · next nt night => simp [frozen nt night]
  · rfl

/-- Portions change no more of a night than its accumulators. -/
theorem takePortions_state (zn : Zone) (iv : Interval) (side : Side) :
    (zn.takePortions iv side).night.map (·.state) = zn.night.map (·.state) := by
  unfold Zone.takePortions
  split
  · next nt night => split <;> simp [night, Night.addPortions]
  · rfl

section
variable {s : State} {iv : Interval} {m : Meter}

theorem takeSide_frame (iv : Interval) (side : Side) (s : State) :
    { takeSide iv side s with zones := s.zones, meters := s.meters } = s := by
  unfold takeSide
  split
  · rfl
  · split
    · rfl
    · exact congrArg (fun u : State => { u with zones := s.zones, meters := s.meters }) (State.updMeter_frame _ _ _)

theorem takeSide_zone (found : s.meter? iv.channel = some m) (side : Side) (z : Nat) :
    (takeSide iv side s).zone z =
      if z = m.zoneOn side ∧ z ≠ 0 then (s.zone z).takePortions iv side else s.zone z := by
  by_cases outside : m.zoneOn side = 0
  · have unmoved : takeSide iv side s = s := by simp [takeSide, found, outside]
    rw [unmoved, if_neg]
    rintro ⟨rfl, inside⟩
    exact inside outside
  · simp only [takeSide, found, outside, if_false, State.updMeter_zone, State.zone_updZone]
    by_cases here : z = m.zoneOn side
    · simp [here, outside]
    · simp [here]

theorem takeSide_meter (found : s.meter? iv.channel = some m) {side : Side}
    (cover : m.zoneOn side = 0 → m.coverOn side = none) :
    (takeSide iv side s).meter? iv.channel =
      some (m.updCover side (extendCover (s.zone (m.zoneOn side)).night iv.t0 iv.t1)) := by
  by_cases outside : m.zoneOn side = 0
  · simp [takeSide, found, outside, updCover_of_none (cover outside)]
  · simp [takeSide, found, outside, State.meter_updMeter]

theorem takeSide_otherMeter (found : s.meter? iv.channel = some m) (side : Side) {ch : Nat} (other : ch ≠ iv.channel) :
    (takeSide iv side s).meter? ch = s.meter? ch := by
  by_cases outside : m.zoneOn side = 0
  · simp [takeSide, found, outside]
  · simp [takeSide, found, outside, State.meter_updMeter, other]

/-! ### Both sides -/

/-- R59: the interval taken on both sides, before any night is queued. -/
def takeSides (iv : Interval) (s : State) : State := takeSide iv .toSide (takeSide iv .fromSide s)

theorem takeSides_frame (iv : Interval) (s : State) :
    { takeSides iv s with zones := s.zones, meters := s.meters } = s := by
  have second := takeSide_frame iv .toSide (takeSide iv .fromSide s)
  exact (congrArg (fun u : State => { u with zones := s.zones, meters := s.meters }) second).trans
    (takeSide_frame iv .fromSide s)

@[simp] theorem updCover_zoneOn (m : Meter) (side side' : Side) (f : Cover → Cover) :
    (m.updCover side f).zoneOn side' = m.zoneOn side' := by
  cases side <;> cases side' <;> rfl

theorem coverOn_none_of_outside (sides : m.SidesOk) {side : Side} (outside : m.zoneOn side = 0) : m.coverOn side = none := by
  obtain ⟨-, fromCover, toCover⟩ := sides
  cases side with
  | fromSide =>
    have zone : m.fromZone = 0 := outside
    have none : m.fromCover = none := by simpa [zone] using fromCover
    exact none
  | toSide =>
    have zone : m.toZone = 0 := outside
    have none : m.toCover = none := by simpa [zone] using toCover
    exact none

/-- The meter between the two sides. -/
theorem takeSide_fromSide_meter (found : s.meter? iv.channel = some m) (sides : m.SidesOk) :
    (takeSide iv .fromSide s).meter? iv.channel =
      some (m.updCover .fromSide (extendCover (s.zone m.fromZone).night iv.t0 iv.t1)) :=
  takeSide_meter found (coverOn_none_of_outside sides)

theorem takeSides_zone_eq (found : s.meter? iv.channel = some m) (sides : m.SidesOk) (z : Nat) :
    (takeSides iv s).zone z =
      if z = m.zoneOn .toSide ∧ z ≠ 0 then (s.zone z).takePortions iv .toSide
      else if z = m.zoneOn .fromSide ∧ z ≠ 0 then (s.zone z).takePortions iv .fromSide
      else s.zone z := by
  rw [takeSides, takeSide_zone (takeSide_fromSide_meter found sides), takeSide_zone found, updCover_zoneOn]
  by_cases here : z = m.zoneOn .toSide ∧ z ≠ 0
  · have notFrom : ¬ (z = m.zoneOn .fromSide ∧ z ≠ 0) := by
      rintro ⟨from', inside⟩
      exact inside (from'.trans (sides.1 (from'.symm.trans here.1)))
    rw [if_pos here, if_pos here, if_neg notFrom]
  · rw [if_neg here, if_neg here]

/-- R59: the zone of a side takes the portions of that side. -/
theorem takeSides_zone (found : s.meter? iv.channel = some m) (sides : m.SidesOk) {side : Side} (inside : m.zoneOn side ≠ 0) :
    (takeSides iv s).zone (m.zoneOn side) = (s.zone (m.zoneOn side)).takePortions iv side := by
  rw [takeSides_zone_eq found sides]
  cases side with
  | fromSide =>
    rw [if_neg, if_pos ⟨rfl, inside⟩]
    rintro ⟨same, -⟩
    exact inside (sides.1 same)
  | toSide => rw [if_pos ⟨rfl, inside⟩]

theorem takeSides_otherZone (found : s.meter? iv.channel = some m) (sides : m.SidesOk) {z : Nat}
    (other : ∀ side, m.zoneOn side ≠ 0 → z ≠ m.zoneOn side) : (takeSides iv s).zone z = s.zone z := by
  have notFrom := other .fromSide
  have notTo := other .toSide
  rw [takeSides_zone_eq found sides, if_neg, if_neg]
  · rintro ⟨rfl, inside⟩
    exact notFrom inside rfl
  · rintro ⟨rfl, inside⟩
    exact notTo inside rfl

/-- R65, R66: the meter's cover records after the interval, both under the nights as they were before it. -/
theorem takeSides_meter (found : s.meter? iv.channel = some m) (sides : m.SidesOk) :
    (takeSides iv s).meter? iv.channel = some { m with
      fromCover := m.fromCover.map (extendCover (s.zone m.fromZone).night iv.t0 iv.t1)
      toCover := m.toCover.map (extendCover (s.zone m.toZone).night iv.t0 iv.t1) } := by
  have same : (takeSide iv .fromSide s).zone m.toZone = s.zone m.toZone := by
    rw [takeSide_zone found, if_neg]
    rintro ⟨here, inside⟩
    exact inside (here.trans (sides.1 here.symm))
  rw [takeSides, takeSide_meter (takeSide_fromSide_meter found sides)]
  · rw [updCover_zoneOn, Meter.zoneOn, same]
    rfl
  · intro outside
    rw [updCover_zoneOn] at outside
    exact coverOn_none_of_outside (side := .toSide) sides outside

theorem takeSides_otherMeter (found : s.meter? iv.channel = some m) (sides : m.SidesOk) {ch : Nat} (other : ch ≠ iv.channel) :
    (takeSides iv s).meter? ch = s.meter? ch := by
  rw [takeSides, takeSide_otherMeter (takeSide_fromSide_meter found sides) _ other, takeSide_otherMeter found _ other]

end

end Sys2Proof.Machine
end

section
/-! SUPPORT. A READING whose interval is accepted (R32, R59 to R71): the nights it completes, and the whole of its effect. -/

namespace Sys2Proof.Machine

/-! ### Coverage (R70) -/

theorem entryCovers_eq (s : State) (j : Nat) (e : Attachment) :
    entryCovers s j e = ((s.meter? e.channel).bind (·.coverOn e.side)).any (·.mask.getLsbD j) := by
  unfold entryCovers
  cases s.meter? e.channel with
  | none => rfl
  | some m => cases hc : m.coverOn e.side <;> simp [hc]

/-- R70: full coverage rests on a zone's list, its night's length and the cover records alone. -/
theorem fullyCovered_congr {s t : State} {z : Nat} (attach : (t.zone z).attach = (s.zone z).attach)
    (length : (t.zone z).night.map (·.length) = (s.zone z).night.map (·.length))
    (covers : ∀ ch side, (t.meter? ch).bind (·.coverOn side) = (s.meter? ch).bind (·.coverOn side)) :
    fullyCovered t z = fullyCovered s z := by
  have entry (j : Nat) : entryCovers t j = entryCovers s j := funext fun e => by
    rw [entryCovers_eq, entryCovers_eq, covers]
  have slot : slotCovered t z = slotCovered s z := funext fun j => by
    simp only [slotCovered, attach, entry]
  unfold fullyCovered
  rw [slot]
  cases ht : (t.zone z).night <;> cases hs : (s.zone z).night <;> simp_all

/-! ### Queuing (R50, R71) -/

/-- R50: the zone with its night QUEUED. -/
def Zone.queued (zn : Zone) (cause : CloseCause) : Zone :=
  { zn with night := zn.night.map fun nt => { nt with state := .queued, cause := some cause } }

theorem Zone.queued_queued (zn : Zone) (cause : CloseCause) : (zn.queued cause).queued cause = zn.queued cause := by
  simp [Zone.queued, Function.comp_def]

theorem queueNight_zone_queued (z : Nat) (cause : CloseCause) (s : State) (j : Nat) :
    (queueNight z cause s).zone j = if j = z then (s.zone z).queued cause else s.zone j := queueNight_zone z cause s j

theorem foldl_queueNight_zone (zs : List Nat) (cause : CloseCause) (s : State) (z : Nat) :
    (zs.foldl (fun s z => queueNight z cause s) s).zone z = if z ∈ zs then (s.zone z).queued cause else s.zone z := by
  induction zs generalizing s with
  | nil => rfl
  | cons a rest ih =>
    rw [List.foldl_cons, ih, queueNight_zone_queued]
    by_cases here : z = a
    · subst here
      by_cases again : z ∈ rest <;> simp [again, Zone.queued_queued]
    · simp [here]

theorem foldl_queueNight_frame (zs : List Nat) (cause : CloseCause) (s : State) :
    { zs.foldl (fun s z => queueNight z cause s) s with zones := s.zones } =
      { s with closeQueue := s.closeQueue ++ zs.map .zone } := by
  induction zs generalizing s with
  | nil => simp
  | cons a rest ih =>
    have := congrArg (fun u : State => { u with zones := s.zones }) (ih (queueNight a cause s))
    simpa [queueNight] using this

theorem isWaiting_eq (s : State) (z : Nat) : isWaiting s z = decide (nightState s z = some .waiting) := by
  unfold isWaiting nightState
  cases (s.zone z).night <;> simp

/-- R71: the zones of a meter's sides, ascending. -/
theorem sideZones_eq {m : Meter} (sides : m.SidesOk) :
    sideZones m = [min m.fromZone m.toZone, max m.fromZone m.toZone].filter fun z => decide (z ≠ 0) := by
  unfold sideZones
  split
  · next h => rw [Nat.min_eq_left h.le, Nat.max_eq_right h.le]
  · split
    · next h => rw [Nat.min_eq_right h.le, Nat.max_eq_left h.le]
    · next h k =>
      have same : m.fromZone = m.toZone := by omega
      have outside := sides.1 same
      simp [← same, outside]

theorem mem_sideZones {m : Meter} (sides : m.SidesOk) {z : Nat} :
    z ∈ sideZones m ↔ z ≠ 0 ∧ (z = m.fromZone ∨ z = m.toZone) := by
  simp only [sideZones_eq sides, List.mem_filter, List.mem_cons, List.not_mem_nil, or_false, decide_eq_true_eq]
  omega

section
variable {s : State} {iv : Interval} {m : Meter}

theorem nightState_takeSides (found : s.meter? iv.channel = some m) (sides : m.SidesOk) (z : Nat) :
    nightState (takeSides iv s) z = nightState s z := by
  unfold nightState
  rw [takeSides_zone_eq found sides]
  split
  · exact takePortions_state _ _ _
  · split
    · exact takePortions_state _ _ _
    · rfl

theorem apportion_eq (found : s.meter? iv.channel = some m) :
    apportion iv s =
      (completedZones (takeSides iv s) m).foldl (fun s z => queueNight z .complete s) (takeSides iv s) := by
  simp [apportion, found, takeSides]

theorem mem_completedZones {u : State} {z : Nat} :
    z ∈ completedZones u m ↔ z ∈ sideZones m ∧ nightState u z = some .waiting ∧ fullyCovered u z = true := by
  simp [completedZones, isWaiting_eq]

theorem completedZones_eq (found : s.meter? iv.channel = some m) (sides : m.SidesOk) :
    completedZones (takeSides iv s) m =
      [min m.fromZone m.toZone, max m.fromZone m.toZone].filter fun z =>
        decide (z ≠ 0 ∧ nightState s z = some .waiting ∧ fullyCovered (takeSides iv s) z = true) := by
  rw [completedZones, sideZones_eq sides, List.filter_filter]
  refine List.filter_congr fun z _ => ?_
  rw [isWaiting_eq, nightState_takeSides found sides]
  simp only [Bool.decide_and, Bool.decide_eq_true, Bool.and_comm]

/-! ### The state after an accepted interval -/

/-- R24, R32: the state after an accepted interval whose reading has become the base. -/
def acceptReading (iv : Interval) (r : ReadingRecord) (s : State) : State := moveBase iv.channel r (apportion iv s)

theorem apportion_frame (found : s.meter? iv.channel = some m) :
    { apportion iv s with zones := s.zones, meters := s.meters } =
      { s with closeQueue := s.closeQueue ++ (completedZones (takeSides iv s) m).map .zone } := by
  have queued := foldl_queueNight_frame (completedZones (takeSides iv s) m) .complete (takeSides iv s)
  have taken := takeSides_frame iv s
  have tail := congrArg State.closeQueue taken
  dsimp only at tail
  rw [← apportion_eq found, tail] at queued
  exact (congrArg (fun u : State => { u with zones := s.zones, meters := s.meters }) queued).trans
    (congrArg (fun u : State =>
      { u with closeQueue := s.closeQueue ++ (completedZones (takeSides iv s) m).map QueueEntry.zone }) taken)

theorem apportion_meter (found : s.meter? iv.channel = some m) (ch : Nat) :
    (apportion iv s).meter? ch = (takeSides iv s).meter? ch := by
  have queued := foldl_queueNight_frame (completedZones (takeSides iv s) m) .complete (takeSides iv s)
  rw [← apportion_eq found] at queued
  have meter := congrArg (fun u : State => u.meter? ch) queued
  exact meter

/-- What an accepted reading leaves alone, and the entries that join the close queue. -/
theorem acceptReading_frame (found : s.meter? iv.channel = some m) (r : ReadingRecord) :
    { acceptReading iv r s with zones := s.zones, meters := s.meters } =
      { s with closeQueue := s.closeQueue ++ (completedZones (takeSides iv s) m).map .zone } :=
  (congrArg (fun u : State => { u with zones := s.zones, meters := s.meters }) (State.updMeter_frame _ _ _)).trans
    (apportion_frame found)

theorem acceptReading_zone (found : s.meter? iv.channel = some m) (r : ReadingRecord) (z : Nat) :
    (acceptReading iv r s).zone z =
      if z ∈ completedZones (takeSides iv s) m then ((takeSides iv s).zone z).queued .complete
      else (takeSides iv s).zone z := by
  rw [acceptReading, moveBase, State.updMeter_zone, apportion_eq found, foldl_queueNight_zone]

theorem acceptReading_meter (found : s.meter? iv.channel = some m) (r : ReadingRecord) (ch : Nat) :
    (acceptReading iv r s).meter? ch = if ch = iv.channel then
      ((takeSides iv s).meter? ch).map fun m => { m with base := some (m.baseFrom r), state := .live }
    else (takeSides iv s).meter? ch := by
  rw [acceptReading, moveBase, State.meter_updMeter, apportion_meter found, apportion_meter found]
  split
  · next here => rw [here]
  · rfl

/-- R71: the interval leaves the coverage that its sides have made. -/
theorem acceptReading_fullyCovered (found : s.meter? iv.channel = some m) (r : ReadingRecord) (z : Nat) :
    fullyCovered (acceptReading iv r s) z = fullyCovered (takeSides iv s) z := by
  refine fullyCovered_congr ?_ ?_ fun ch side => ?_
  · rw [acceptReading_zone found]
    split <;> rfl
  · rw [acceptReading_zone found]
    split
    · simp [Zone.queued, Function.comp_def]
    · rfl
  · rw [acceptReading_meter found]
    split
    · cases (takeSides iv s).meter? ch <;> cases side <;> rfl
    · rfl

theorem acceptReading_thisMeter (found : s.meter? iv.channel = some m) (sides : m.SidesOk) (r : ReadingRecord) :
    (acceptReading iv r s).meter? iv.channel = some { m with
      base := some (m.baseFrom r)
      state := .live
      fromCover := m.fromCover.map (extendCover (s.zone m.fromZone).night iv.t0 iv.t1)
      toCover := m.toCover.map (extendCover (s.zone m.toZone).night iv.t0 iv.t1) } := by
  rw [acceptReading_meter found, if_pos rfl, takeSides_meter found sides]
  rfl

theorem acceptReading_otherMeter (found : s.meter? iv.channel = some m) (sides : m.SidesOk) (r : ReadingRecord) {ch : Nat}
    (other : ch ≠ iv.channel) : (acceptReading iv r s).meter? ch = s.meter? ch := by
  rw [acceptReading_meter found, if_neg other, takeSides_otherMeter found sides other]

theorem acceptReading_closeQueue (found : s.meter? iv.channel = some m) (sides : m.SidesOk) (r : ReadingRecord) :
    (acceptReading iv r s).closeQueue =
      s.closeQueue ++ ([min m.fromZone m.toZone, max m.fromZone m.toZone].filter fun z =>
        decide (z ≠ 0 ∧ nightState s z = some .waiting ∧ fullyCovered (acceptReading iv r s) z = true)).map .zone := by
  have queue := congrArg State.closeQueue (acceptReading_frame found r)
  rw [completedZones_eq found sides, ← funext (acceptReading_fullyCovered found r)] at queue
  exact queue

/-! ### The drops (R63, R64) -/

theorem NightState.isOpen_false_iff (n : NightState) : n.isOpen = false ↔ n = .queued ∨ n = .closing := by
  cases n <;> simp [NightState.isOpen]

theorem sideDrops_iff (s : State) (m : Meter) (t₀ t₁ : Nat) (side : Side) :
    sideDrops s m t₀ t₁ side = true ↔ m.zoneOn side ≠ 0 ∧
      ((∃ w ∈ (s.zone (m.zoneOn side)).lastClosed, t₀ < w.we ∧ w.ws < t₁) ∨
        ∃ nt ∈ (s.zone (m.zoneOn side)).night,
          (nt.state = .queued ∨ nt.state = .closing) ∧ t₀ < nt.we ∧ nt.ws < t₁) := by
  simp only [sideDrops, Zone.drops, Bool.and_eq_true, decide_eq_true_eq, Bool.or_eq_true]
  cases (s.zone (m.zoneOn side)).lastClosed <;> cases (s.zone (m.zoneOn side)).night <;>
    simp [overlaps, NightState.isOpen_false_iff]

/-! ### A side's night -/

/-- R71: a side's zone is queued where its WAITING night is fully covered. -/
theorem mem_completedZones_side (found : s.meter? iv.channel = some m) (sides : m.SidesOk) (r : ReadingRecord) {side : Side}
    (inside : m.zoneOn side ≠ 0) :
    m.zoneOn side ∈ completedZones (takeSides iv s) m ↔
      nightState s (m.zoneOn side) = some .waiting ∧ fullyCovered (acceptReading iv r s) (m.zoneOn side) = true := by
  have listed : m.zoneOn side ∈ sideZones m := by
    rw [mem_sideZones sides]
    refine ⟨inside, ?_⟩
    cases side with
    | fromSide => exact .inl rfl
    | toSide => exact .inr rfl
  rw [mem_completedZones, nightState_takeSides found sides, acceptReading_fullyCovered found]
  simp [listed]

/-- OUTSIDE is no zone of any side. -/
theorem acceptReading_outside (found : s.meter? iv.channel = some m) (sides : m.SidesOk) (r : ReadingRecord) :
    (acceptReading iv r s).zone 0 = s.zone 0 := by
  rw [acceptReading_zone found, if_neg, takeSides_otherZone found sides fun _ inside => inside.symm]
  rw [mem_completedZones, mem_sideZones sides]
  exact fun h => h.1.1 rfl

/-- R59 to R61, R71: what becomes of the open night of a side's zone. -/
theorem acceptReading_openNight (found : s.meter? iv.channel = some m) (sides : m.SidesOk) (r : ReadingRecord) {side : Side}
    (inside : m.zoneOn side ≠ 0) {nt : Night} (night : (s.zone (m.zoneOn side)).night = some nt)
    (isOpen : nt.state.isOpen = true) :
    (acceptReading iv r s).zone (m.zoneOn side) =
      { s.zone (m.zoneOn side) with
        night :=
          some (if nt.state = .waiting ∧ fullyCovered (acceptReading iv r s) (m.zoneOn side) = true then
            { nt.addPortions iv side with state := .queued, cause := some .complete }
          else nt.addPortions iv side) } := by
  have waiting : nightState s (m.zoneOn side) = some .waiting ↔ nt.state = .waiting := by simp [nightState, night]
  have listed := mem_completedZones_side found sides r inside
  rw [waiting] at listed
  rw [acceptReading_zone found, takeSides_zone found sides inside, takePortions_open night isOpen]
  by_cases completes : nt.state = .waiting ∧ fullyCovered (acceptReading iv r s) (m.zoneOn side) = true
  · rw [if_pos (listed.mpr completes), if_pos completes]
    rfl
  · rw [if_neg (mt listed.mp completes), if_neg completes]

/-- R59: a side's zone whose night is frozen, or that has none, is passed over. -/
theorem acceptReading_frozenNight (found : s.meter? iv.channel = some m) (sides : m.SidesOk) (r : ReadingRecord) {side : Side}
    (frozen : ∀ nt ∈ (s.zone (m.zoneOn side)).night, nt.state.isOpen = false) :
    (acceptReading iv r s).zone (m.zoneOn side) = s.zone (m.zoneOn side) := by
  by_cases inside : m.zoneOn side = 0
  · rw [inside, acceptReading_outside found sides]
  · have notWaiting : nightState s (m.zoneOn side) ≠ some .waiting := by
      intro waiting
      obtain ⟨nt, night, state⟩ := Option.map_eq_some_iff.mp waiting
      have := frozen nt night
      simp [state, NightState.isOpen] at this
    rw [acceptReading_zone found, if_neg, takeSides_zone found sides inside, takePortions_frozen frozen]
    rw [mem_completedZones_side found sides r inside]
    exact fun h => notWaiting h.1

theorem acceptReading_otherZone (found : s.meter? iv.channel = some m) (sides : m.SidesOk) (r : ReadingRecord) {z : Nat}
    (notFrom : z ≠ m.fromZone) (notTo : z ≠ m.toZone) : (acceptReading iv r s).zone z = s.zone z := by
  have other (side : Side) (_ : m.zoneOn side ≠ 0) : z ≠ m.zoneOn side := by cases side <;> assumption
  rw [acceptReading_zone found, if_neg, takeSides_otherZone found sides other]
  rw [mem_completedZones, mem_sideZones sides]
  rintro ⟨⟨-, here | here⟩, -⟩
  · exact notFrom here
  · exact notTo here

end

/-- R21, R32: a record whose interval is accepted. -/
theorem takeRecord_accepted {r : ReadingRecord} {s : State} {clock ch forward reverse : Nat} {m : Meter} {b : Base}
    (set : s.clock = some clock) (found : s.meterBySerial r.serial = some (ch, m)) (ok : r.FieldsOk m)
    (notFuture : r.time ≤ clock + s.settings.skew) (base : m.base = some b) (later : b.time < r.time)
    (new : repeatOf m b r = none) (accepted : classify s.settings.gapLimit m b r = .accepted forward reverse) :
    takeRecord r s = ⟨acceptReading (intervalOf ch b r forward reverse) r s,
      if intervalDrops (intervalOf ch b r forward reverse) s then .late else .ok, 0⟩ := by
  rw [takeRecord_passes set found ok notFuture, againstBase_passes s base later.le new]
  simp [formInterval, accepted, acceptReading, intervalOf]

/-- Settles O32: each part of the effect, by its own lemma. -/
theorem acceptedReadingIsApportioned : Obligations.AcceptedReadingIsApportioned := by
  unfold Obligations.AcceptedReadingIsApportioned
  intro tag r clock ch m b fwd rev s fits set found sides ok notFuture base later new accepted takes share net drops start
  let iv := intervalOf ch b r fwd rev
  have meter : s.popIntake.meter? iv.channel = some m := (State.meterBySerial_some found).2
  have taken := takeRecord_accepted (s := s.popIntake) set found ok notFuture base later new accepted
  have netPortion_eq (ws j : Nat) : netPortion iv ws j = net ws j := by
    simp only [netPortion, portion_int]
    rfl
  have dropped : intervalDrops iv s.popIntake = true ↔ drops m.fromZone ∨ drops m.toZone := by
    simp only [intervalDrops, meter, Bool.or_eq_true, sideDrops_iff]
    rfl
  have shut (n : NightState) : n = .queued ∨ n = .closing → n.isOpen = false := n.isOpen_false_iff.mpr
  have opened (n : NightState) : n = .pending ∨ n = .waiting → n.isOpen = true := n.isOpen_iff.mpr
  refine ⟨_, exec_reading fits takes, ?_, ?_, ?_, ?_, ?_, ?_, ?_, ?_⟩ <;> rw [taken]
  · refine ⟨_, rfl, rfl, fun h => if_pos (dropped.mpr h), fun h => if_neg (mt dropped.mp h)⟩
  · exact congrArg (fun u : State => { u with link := s.link, closeQueue := s.closeQueue }) (acceptReading_frame meter r)
  · refine ⟨_, acceptReading_thisMeter meter sides r, by rw [baseFrom_eq], fun side c cover => ?_⟩
    refine ⟨extendCover (s.zone (m.zoneOn side)).night b.time r.time c, ?_, extendCover_spec _ _ _ c⟩
    cases side <;> exact Option.mem_map_of_mem _ cover
  · exact fun ch' other => acceptReading_otherMeter meter sides r other
  · exact fun z => acceptReading_otherZone meter sides r
  · intro side inside nt night isOpen
    refine ⟨_, congrArg Zone.night (acceptReading_openNight meter sides r inside night (opened _ isOpen)), ?_, ?_,
      acceptReading_openNight meter sides r inside night (opened _ isOpen)⟩
    · have slots := addPortions_slots nt iv side
      simp only [netPortion_eq] at slots
      rw [← slots]
      split <;> rfl
    · by_cases completes : nt.state = .waiting ∧ fullyCovered (acceptReading iv r s.popIntake) (m.zoneOn side) = true
      · simp only [if_pos completes]
        exact (if_pos completes).symm
      · simp only [if_neg completes]
        exact (if_neg completes).symm
  · exact acceptReading_closeQueue meter sides r
  · exact fun side frozen => acceptReading_frozenNight meter sides r fun nt night => shut _ (frozen nt night)

end Sys2Proof.Machine
end

section
/-! SUPPORT. What one command does to the part settings, the zones' settings and nights, the close queue, the engine and the
test request, said once: changes that leave all of these alone, and the moves that do not. -/

namespace Sys2Proof.Machine

/-! ### Quiet changes -/

/-- What a night keeps while no move takes it on: all of it once it is frozen; while it is open, all but whether its window has
ended, the excluded flag and the volumes in its slots. -/
def Night.Quiet (nt nt' : Night) : Prop :=
  nt' = nt ∨
    (nt.state.isOpen = true ∧ nt'.state.isOpen = true ∧ nt'.slots.length = nt.slots.length ∧
      nt' = { nt with state := nt'.state, excluded := nt'.excluded, slots := nt'.slots })

theorem Night.Quiet.refl (nt : Night) : nt.Quiet nt := .inl rfl

theorem Night.Quiet.trans {a b c : Night} (h : a.Quiet b) (k : b.Quiet c) : a.Quiet c := by
  rcases h with rfl | ⟨aOpen, bOpen, ab, hb⟩
  · exact k
  · rcases k with rfl | ⟨-, cOpen, bc, hc⟩
    · exact .inr ⟨aOpen, bOpen, ab, hb⟩
    · refine .inr ⟨aOpen, cOpen, bc.trans ab, ?_⟩
      rw [hc, hb]

theorem nightRel_refl (o : Option Night) : Option.Rel Night.Quiet o o := by
  cases o with
  | none => exact .none
  | some nt => exact .some (.refl nt)

theorem nightRel_trans {a b c : Option Night} (h : Option.Rel Night.Quiet a b) (k : Option.Rel Night.Quiet b c) :
    Option.Rel Night.Quiet a c := by
  cases h with
  | none => exact k
  | some h => cases k with | some k => exact .some (h.trans k)

/-- What a zone keeps of its settings, its night and its monitor state. -/
structure Zone.Quiet (zn zn' : Zone) : Prop where
  geometry : zn'.geometry = zn.geometry
  params : zn'.params = zn.params
  staged : zn'.staged = zn.staged
  monitor : zn'.monitor = zn.monitor
  stopPending : zn'.stopPending = zn.stopPending
  night : Option.Rel Night.Quiet zn.night zn'.night

theorem Zone.Quiet.refl (zn : Zone) : zn.Quiet zn := ⟨rfl, rfl, rfl, rfl, rfl, nightRel_refl _⟩

theorem Zone.Quiet.trans {a b c : Zone} (h : a.Quiet b) (k : b.Quiet c) : a.Quiet c where
  geometry := k.geometry.trans h.geometry
  params := k.params.trans h.params
  staged := k.staged.trans h.staged
  monitor := k.monitor.trans h.monitor
  stopPending := k.stopPending.trans h.stopPending
  night := nightRel_trans h.night k.night

/-- A change of a zone beside its settings, its night and its monitor state. -/
theorem Zone.Quiet.of_eq {zn zn' : Zone} (geometry : zn'.geometry = zn.geometry) (params : zn'.params = zn.params)
    (staged : zn'.staged = zn.staged) (monitor : zn'.monitor = zn.monitor) (stopPending : zn'.stopPending = zn.stopPending)
    (night : zn'.night = zn.night) : zn.Quiet zn' :=
  ⟨geometry, params, staged, monitor, stopPending, night ▸ nightRel_refl _⟩

/-- A change of the part that leaves the part settings, the close queue, the engine, the test request and every zone's settings,
monitor state and night alone. -/
structure Quiet (s t : State) : Prop where
  settings : t.settings = s.settings
  closeQueue : t.closeQueue = s.closeQueue
  engine : t.engine = s.engine
  request : t.test.request = s.test.request
  zones : ∀ z, (s.zone z).Quiet (t.zone z)

/-- The parts of the state that the nights and the engine move by. -/
def State.schedule (s : State) : PartSettings × List QueueEntry × Option Item × TestRequest × List (Nat × Zone) :=
  (s.settings, s.closeQueue, s.engine, s.test.request, s.zones)

namespace Quiet

theorem refl (s : State) : Quiet s s := ⟨rfl, rfl, rfl, rfl, fun _ => .refl _⟩

theorem trans {s t u : State} (h : Quiet s t) (k : Quiet t u) : Quiet s u where
  settings := k.settings.trans h.settings
  closeQueue := k.closeQueue.trans h.closeQueue
  engine := k.engine.trans h.engine
  request := k.request.trans h.request
  zones z := (h.zones z).trans (k.zones z)

/-- A change outside these parts, as a frame says it. -/
theorem of_schedule {s t : State} (h : t.schedule = s.schedule) : Quiet s t := by
  simp only [State.schedule, Prod.mk.injEq] at h
  obtain ⟨settings, closeQueue, engine, request, zones⟩ := h
  exact ⟨settings, closeQueue, engine, request, fun z => by simp only [State.zone, zones]; exact .refl _⟩

theorem updZone (s : State) (z : Nat) {f : Zone → Zone} (h : (s.zone z).Quiet (f (s.zone z))) : Quiet s (s.updZone z f) := by
  refine ⟨rfl, rfl, rfl, rfl, fun j => ?_⟩
  rw [State.zone_updZone]
  split
  · next here => exact here ▸ h
  · exact .refl _

theorem updInside (s : State) (z : Nat) {f : Zone → Zone} (h : (s.zone z).Quiet (f (s.zone z))) :
    Quiet s (s.updInside z f) := by
  unfold State.updInside
  split
  · exact refl s
  · exact updZone s z h

theorem updMeter (s : State) (ch : Nat) (f : Meter → Meter) : Quiet s (s.updMeter ch f) :=
  of_schedule (congrArg State.schedule (State.updMeter_frame s ch f) :)

theorem raiseIf (s : State) (b : Bool) (n : Notice) : Quiet s (s.raiseIf b n) := by
  cases b <;> exact of_schedule rfl

theorem raiseChange (z : Nat) (before : MonitorState) (s : State) : Quiet s (raiseChange z before s) := raiseIf s _ _

theorem refreshGroups (z : Nat) (s : State) : Quiet s (refreshGroups z s) :=
  of_schedule (congrArg State.schedule (refreshGroups_frame z s) :)

theorem updAttachedCovers (s : State) (z : Nat) (f : Cover → Cover) : Quiet s (s.updAttachedCovers z f) :=
  of_schedule (congrArg State.schedule (updAttachedCovers_frame s z f) :)

theorem refreshOnSummary (z : Nat) (before s : State) : Quiet s (refreshOnSummary z before s) := by
  unfold Machine.refreshOnSummary
  split
  · exact refl s
  · exact refreshGroups z s

/-! ### Readings (Chapters 2 and 4) -/

theorem takePortions (zn : Zone) (iv : Interval) (side : Side) : zn.Quiet (zn.takePortions iv side) := by
  by_cases frozen : ∀ nt ∈ zn.night, nt.state.isOpen = false
  · rw [takePortions_frozen frozen]
    exact .refl zn
  · push Not at frozen
    obtain ⟨nt, night, isOpen⟩ := frozen
    have isOpen : nt.state.isOpen = true := by simpa using isOpen
    have moved : nt.Quiet (nt.addPortions iv side) := .inr ⟨isOpen, isOpen, by simp [Night.addPortions], rfl⟩
    rw [takePortions_open night isOpen]
    refine ⟨rfl, rfl, rfl, rfl, rfl, ?_⟩
    rw [show zn.night = some nt from night]
    exact .some moved

theorem takeSide (iv : Interval) (side : Side) (s : State) : Quiet s (takeSide iv side s) := by
  unfold Machine.takeSide
  split
  · exact refl s
  · split
    · exact refl s
    · exact (updZone s _ (takePortions _ iv side)).trans (updMeter _ _ _)

/-! ### The directory (Chapter 1) -/

theorem detach (zn : Zone) (ch : Nat) : zn.Quiet (zn.detach ch) := .of_eq rfl rfl rfl rfl rfl rfl

theorem attachEntry (zn : Zone) (e : Attachment) : zn.Quiet (zn.attachEntry e) := .of_eq rfl rfl rfl rfl rfl rfl

theorem detachMeter (ch : Nat) (m : Meter) (s : State) : Quiet s (detachMeter ch m s) :=
  (updInside s _ (detach _ ch)).trans (updInside _ _ (detach _ ch))

theorem relistMeter (ch : Nat) (m : Meter) (r : AttachReq) (s : State) : Quiet s (relistMeter ch m r s) :=
  ((detachMeter ch m s).trans (updInside _ _ (attachEntry _ _))).trans (updInside _ _ (attachEntry _ _))

theorem addMeterAnswer (r : AddMeterReq) (s : State) : Quiet s (addMeterAnswer r s).state := by
  unfold Machine.addMeterAnswer
  split
  · exact refl s
  · split
    · exact refl s
    · split <;> exact of_schedule rfl

theorem removeMeterAnswer (serial : Nat) (s : State) : Quiet s (removeMeterAnswer serial s).state := by
  unfold Machine.removeMeterAnswer
  split
  · exact refl s
  · split
    · exact refl s
    · split
      · exact refl s
      · exact (detachMeter _ _ s).trans (of_schedule rfl)

theorem replaceAnswer (r : ReplaceReq) (s : State) : Quiet s (replaceAnswer r s).state := by
  unfold Machine.replaceAnswer
  split
  · exact refl s
  · split
    · exact refl s
    · split
      · exact refl s
      · split
        · exact refl s
        · split <;> exact of_schedule rfl

theorem attachAnswer (r : AttachReq) (s : State) : Quiet s (attachAnswer r s).state := by
  unfold Machine.attachAnswer
  split
  · exact refl s
  · split
    · exact refl s
    · split
      · exact refl s
      · split
        · exact refl s
        · exact (relistMeter _ _ r s).trans (of_schedule rfl)

/-! ### The other owners whose answers move no night -/

theorem unfreezeAnswer (z : Nat) (s : State) : Quiet s (unfreezeAnswer z s).state := by
  unfold Machine.unfreezeAnswer
  split
  · exact refl s
  · exact updZone s z (f := fun zn => { zn with frozen := false }) (.of_eq rfl rfl rfl rfl rfl rfl)

theorem historyReadAnswer (r : HistoryReadReq) (s : State) : Quiet s (historyReadAnswer r s).state := by
  unfold Machine.historyReadAnswer
  split
  · exact refl s
  · split <;> exact refl s

theorem meterReadAnswer (r : MeterReadReq) (s : State) : Quiet s (meterReadAnswer r s).state := by
  unfold Machine.meterReadAnswer
  split
  · exact refl s
  · split <;> exact refl s

theorem groupSetAnswer (r : GroupSetReq) (s : State) : Quiet s (groupSetAnswer r s).state := by
  unfold Machine.groupSetAnswer
  split
  · exact refl s
  · split
    · exact refl s
    · split
      · exact refl s
      · exact (of_schedule rfl : Quiet s (s.setGroup _ _)).trans (raiseIf _ _ _)

theorem groupReadAnswer (g : Nat) (s : State) : Quiet s (groupReadAnswer g s).state := by
  unfold Machine.groupReadAnswer
  split <;> exact refl s

theorem ackZoneAnswer (z : Nat) (s : State) : Quiet s (ackZoneAnswer z s).state := by
  unfold Machine.ackZoneAnswer
  split
  · exact refl s
  · exact (updZone s z (f := Zone.acknowledge) (.of_eq rfl rfl rfl rfl rfl rfl)).trans (refreshOnSummary z s _)

theorem excludeNightAnswer (z : Nat) (s : State) : Quiet s (excludeNightAnswer z s).state := by
  unfold Machine.excludeNightAnswer
  split
  · exact refl s
  · split
    · exact refl s
    · next nt night =>
      split
      · next isOpen =>
        have moved : nt.Quiet { nt with excluded := true } := .inr ⟨isOpen, isOpen, rfl, rfl⟩
        refine updZone s z (f := fun zn => { zn with night := some { nt with excluded := true } })
          ⟨rfl, rfl, rfl, rfl, rfl, ?_⟩
        rw [night]
        exact .some moved
      · exact refl s

theorem restartAnswer (level : Nat) (s : State) : Quiet s (restartAnswer level s).state := by
  unfold Machine.restartAnswer
  split
  · exact refl s
  · exact of_schedule rfl

theorem zoneReadAnswer (z : Nat) (s : State) : Quiet s (zoneReadAnswer z s).state := by
  unfold Machine.zoneReadAnswer
  split <;> exact refl s

theorem zoneProfileAnswer (z : Nat) (s : State) : Quiet s (zoneProfileAnswer z s).state := by
  unfold Machine.zoneProfileAnswer
  split
  · exact refl s
  · split <;> exact refl s

theorem reportHoldAnswer (s : State) : Quiet s (reportHoldAnswer s).state := by
  unfold Machine.reportHoldAnswer
  split
  · exact refl s
  · exact of_schedule rfl

theorem reportReleaseAnswer (s : State) : Quiet s (reportReleaseAnswer s).state := by
  unfold Machine.reportReleaseAnswer
  split
  · exact refl s
  · exact of_schedule rfl

/-! ### Clock marks (Chapter 3) -/

theorem endWindow (nt : Night) (clock : Nat) : nt.Quiet (nt.endWindow clock) := by
  unfold Night.endWindow
  split
  · next h => exact .inr ⟨by rw [h.1]; rfl, rfl, rfl, rfl⟩
  · exact .refl nt

theorem endWindows (s : State) (z clock : Nat) :
    Quiet s (s.updZone z fun zn => { zn with night := zn.night.map fun nt => nt.endWindow clock }) := by
  refine updZone s z ⟨rfl, rfl, rfl, rfl, rfl, ?_⟩
  dsimp only
  cases (s.zone z).night with
  | none => exact .none
  | some nt => exact .some (endWindow nt clock)

theorem staleCheck (clock : Nat) (s : State) : Quiet s (staleCheck clock s) :=
  of_schedule (congrArg State.schedule (foldl_makeStale_frame (lapsedChannels s clock) s) :)

end Quiet

/-! ### Moves -/

/-- What a command does to the part settings, the zones' settings and nights, the close queue, the engine and the test request:
one of the moves that the manual names, or several, and quiet changes among them. -/
inductive NightMoves : State → State → Prop
  | quiet {s t : State} (h : Quiet s t) : NightMoves s t
  | trans {s t u : State} (h : NightMoves s t) (k : NightMoves t u) : NightMoves s u
  /-- R181 -/
  | partSet {s : State} (es : List (Nat × Int)) (passes : partEntriesFault [] 1 es = none) :
      NightMoves s { s with settings := es.foldl PartSettings.write s.settings }
  /-- R43, R44 -/
  | zoneSet {s : State} (r : ZoneSetReq) (passes : zoneSetRefusal r s = none) :
      NightMoves s (s.updZone r.zone fun zn => zn.takeEntries r.entries)
  /-- R50 -/
  | queues {s : State} (z : Nat) (cause : CloseCause) (waits : nightState s z = some .waiting) :
      NightMoves s (queueNight z cause s)
  /-- R48, R111, R113 -/
  | begins {s : State} (z : Nat) (survey : Bool) (monitor : MonitorState) (judge : Judgement) (valid : ZoneValid z)
      (idle : (s.zone z).monitor = .standby) (active : monitor ≠ .standby) (surveys : survey = true ↔ monitor = .survey) :
      NightMoves s (createNight z survey (s.updZone z fun zn => { zn with judge := judge, monitor := monitor }))
  /-- R112 -/
  | stops {s : State} (z : Nat) (valid : ZoneValid z) (free : nightState s z ≠ some .closing) :
      NightMoves s ((discardNight z s).updZone z Zone.enterStandby)
  /-- R89 -/
  | stopsLater {s : State} (z : Nat) (closing : nightState s z = some .closing) :
      NightMoves s (s.updZone z fun zn => { zn with stopPending := true })
  /-- R115 -/
  | rebases {s : State} (z : Nat) (f : Int) (armed : (s.zone z).monitor.armed = true) :
      NightMoves s (s.updZone z fun zn => zn.rebase f)
  /-- R117 -/
  | resets {s : State} (z : Nat) (valid : ZoneValid z) : NightMoves s ((dropNight z s).updZone z Zone.clearAll)
  /-- R79, R80 -/
  | closeStarts {s : State} (z : Nat) (nt : Night) (ready : closeReady s = some (z, nt)) : NightMoves s (startClose z nt s)
  /-- R79, R164 -/
  | testStarts {s : State} (test : Nat) (ready : testReady s = some test) : NightMoves s (startTest test s)
  /-- R81 -/
  | closes {s : State} (c : CloseItem) (inService : closeInService s = some c) : NightMoves s (completeClose c s)
  /-- R88, R164 -/
  | testEnds {s : State} (test : Nat) (inService : testInService s = some test) : NightMoves s (completeTest test s)
  /-- R163 -/
  | testQueued {s : State} (test : Nat) (idle : s.test.request = .idle) :
      NightMoves s ({ s with test := { s.test with request := .queued test } }.enqueue .test)
  /-- R169 -/
  | testCancelled {s : State} (test : Nat) (result : Option TestResult) (queued : s.test.request = .queued test) :
      NightMoves s { s.dequeue .test with test := ⟨.idle, result⟩ }
  /-- R184 -/
  | abandons {s : State} : NightMoves s (abandonAll s)

namespace NightMoves

theorem refl (s : State) : NightMoves s s := .quiet (.refl s)

theorem of_schedule {s t : State} (h : t.schedule = s.schedule) : NightMoves s t := .quiet (.of_schedule h)

theorem withFields {α : Type} (fields : Option α) {s : State} {owner : α → Answer}
    (h : ∀ r, NightMoves s (owner r).state) : NightMoves s (withFields fields s owner).state := by
  cases fields with
  | none => exact refl s
  | some r => exact h r

/-- What a request does, its owner does. -/
theorem serve {kind tag : Byte} {payload : List Byte} {owner : List Byte → State → Answer} {s t : State}
    (h : ∀ p u, NightMoves u (owner p u).state) (e : serve kind tag payload owner s = .next t) : NightMoves s t := by
  rcases serve_cases e with ⟨-, rfl⟩ | ⟨-, rfl⟩
  · exact ((of_schedule rfl : NightMoves s s.popIntake).trans (h _ _)).trans (of_schedule rfl)
  · exact refl _

/-- A request that is parsed whole before its owner takes it. -/
theorem serve_withFields {α : Type} {kind tag : Byte} {payload : List Byte} {parse : List Byte → Option α}
    {owner : α → State → Answer} {s t : State} (h : ∀ r u, NightMoves u (owner r u).state)
    (e : Machine.serve kind tag payload (fun p s => Machine.withFields (parse p) s fun r => owner r s) s = .next t) :
    NightMoves s t :=
  serve (fun _ u => withFields _ fun r => h r u) e

/-- A request whose owner moves no night. -/
theorem serve_quiet {α : Type} {kind tag : Byte} {payload : List Byte} {parse : List Byte → Option α}
    {owner : α → State → Answer} {s t : State} (h : ∀ r u, Quiet u (owner r u).state)
    (e : Machine.serve kind tag payload (fun p s => Machine.withFields (parse p) s fun r => owner r s) s = .next t) :
    NightMoves s t :=
  serve_withFields (fun r u => .quiet (h r u)) e

/-! ### Clock marks and FORCE_CLOSE (Chapter 3) -/

theorem markZone (clock : Nat) (s : State) (z : Nat) : NightMoves s (markZone clock s z) := by
  have ended := Quiet.endWindows s z clock
  unfold Machine.markZone
  dsimp only
  generalize (s.updZone z fun zn => { zn with night := zn.night.map fun nt => nt.endWindow clock }) = u at ended ⊢
  split
  · next waits =>
    have waits : nightState u z = some .waiting := by simpa [isWaiting_eq] using waits
    split
    · exact (quiet ended).trans (.queues z _ waits)
    · split
      · exact (quiet ended).trans (.queues z _ waits)
      · exact .quiet ended
  · exact .quiet ended

theorem foldl {α : Type} {f : State → α → State} (h : ∀ s a, NightMoves s (f s a)) (l : List α) (s : State) :
    NightMoves s (l.foldl f s) := by
  induction l generalizing s with
  | nil => exact refl s
  | cons a rest ih => exact (h s a).trans (ih (f s a))

theorem clockMarkAnswer (time : Nat) (s : State) : NightMoves s (clockMarkAnswer time s).state := by
  unfold Machine.clockMarkAnswer
  split
  · exact refl s
  · have set : NightMoves s { s with clock := some time } := of_schedule rfl
    exact (set.trans (foldl (markZone time) zoneNumbers _)).trans (.quiet (.staleCheck time _))

theorem forceCloseAnswer (z : Nat) (s : State) : NightMoves s (forceCloseAnswer z s).state := by
  unfold Machine.forceCloseAnswer
  split
  · exact refl s
  · split
    · exact refl s
    · next nt night =>
      split
      case h_2 waiting => exact .queues z .forced (by simp [nightState, night, waiting])
      all_goals exact refl s

/-! ### Readings (Chapters 2 and 4) -/

/-- R71: zones that wait are queued one after another. -/
theorem queueNights {zs : List Nat} {cause : CloseCause} {s : State} (apart : zs.Nodup)
    (wait : ∀ z ∈ zs, nightState s z = some .waiting) : NightMoves s (zs.foldl (fun s z => queueNight z cause s) s) := by
  induction zs generalizing s with
  | nil => exact refl s
  | cons z rest ih =>
    obtain ⟨fresh, apart⟩ := List.nodup_cons.mp apart
    obtain ⟨waits, others⟩ := List.forall_mem_cons.mp wait
    refine (queues z cause waits).trans (ih apart fun j hj => ?_)
    have other : j ≠ z := fun here => fresh (here ▸ hj)
    rw [nightState, queueNight_zone, if_neg other]
    exact others j hj

theorem apportion (iv : Interval) (s : State) : NightMoves s (apportion iv s) := by
  unfold Machine.apportion
  split
  · exact refl s
  · next m _ =>
    refine (quiet ((Quiet.takeSide iv .fromSide s).trans (.takeSide iv .toSide _))).trans (queueNights ?_ fun z hz => ?_)
    · refine List.Nodup.filter _ (List.Nodup.filter _ ?_)
      split
      · next h => simp [h.ne]
      · split
        · next h => simp [h.ne]
        · simp
    · have waits := List.of_mem_filter hz
      simp only [Bool.and_eq_true, isWaiting_eq, decide_eq_true_eq] at waits
      exact waits.1

theorem formInterval (ch : Nat) (m : Meter) (b : Base) (r : ReadingRecord) (s : State) :
    NightMoves s (formInterval ch m b r s).state := by
  unfold Machine.formInterval
  split
  · exact of_schedule rfl
  · exact (apportion _ s).trans (.quiet (.updMeter _ _ _))

theorem againstBase (ch : Nat) (m : Meter) (r : ReadingRecord) (s : State) : NightMoves s (againstBase ch m r s).state := by
  unfold Machine.againstBase
  split
  · exact .quiet (.updMeter _ _ _)
  · split
    · exact refl s
    · split
      · exact refl s
      · exact formInterval _ _ _ r s

theorem takeRecord (r : ReadingRecord) (s : State) : NightMoves s (takeRecord r s).state := by
  unfold Machine.takeRecord
  split
  · exact refl s
  · split
    · exact refl s
    · split
      · exact refl s
      · split
        · exact refl s
        · exact againstBase _ _ r s

/-! ### The engine (Chapter 5) -/

theorem engineEvent (s : State) : NightMoves s (engineEvent s) := by
  unfold Machine.engineEvent
  split
  case h_1 inService => exact .closes _ inService
  case h_2 inService => exact .testEnds _ inService
  case h_3 ready => exact .closeStarts _ _ ready
  case h_4 ready => exact .testStarts _ ready
  case h_5 => exact refl s

theorem engineEvents (k : Nat) (s : State) : NightMoves s (engineEvents k s) := by
  induction k generalizing s with
  | zero => exact refl s
  | succ k ih => exact (engineEvent s).trans (ih _)

theorem takeRecords (rs : List ReadingRecord) (events : List Nat) (s : State) : NightMoves s (takeRecords rs events s).1 := by
  induction rs, events, s using Machine.takeRecords.induct with
  | case1 events s => exact refl s
  | case2 r events s => exact takeRecord r s
  | case3 r rest events s more a ih =>
    rw [takeRecords_cons r more]
    exact ((takeRecord r s).trans (engineEvents _ _)).trans ih

theorem batchAnswer (b : BatchReq) (events : List Nat) (s : State) : NightMoves s (batchAnswer b events s).state := by
  unfold Machine.batchAnswer
  split
  · exact takeRecords b.records events s
  · exact refl s

/-! ### Settings -/

theorem partSetAnswer (r : PartSetReq) (s : State) : NightMoves s (partSetAnswer r s).state := by
  unfold Machine.partSetAnswer
  split
  · exact refl s
  · split
    · exact refl s
    · next passes => exact .partSet r.entries passes

theorem zoneSetAnswer (r : ZoneSetReq) (s : State) : NightMoves s (zoneSetAnswer r s).state := by
  unfold Machine.zoneSetAnswer
  split
  · exact refl s
  · exact refl s
  · next passes => exact (zoneSet r passes).trans (.quiet (.refreshOnSummary _ _ _))

/-! ### The zone commands (Chapter 7) -/

theorem startRefusal_none {z : Nat} {s : State} (h : startRefusal z s = none) : (s.zone z).monitor = .standby := by
  by_contra active
  simp [startRefusal, active] at h

theorem zoneStartAnswer (r : ZoneStartReq) (s : State) : NightMoves s (zoneStartAnswer r s).state := by
  unfold Machine.zoneStartAnswer
  split
  · exact refl s
  · next fields =>
    split
    · exact refl s
    · next passes =>
      have valid : ZoneValid r.zone := by
        by_contra bad
        simp [zoneStartFault, mt (zoneOk_iff r.zone).mp bad] at fields
      have monitored : (if r.mode = 1 then MonitorState.watch else .learning) ≠ .standby ∧
          (if r.mode = 1 then MonitorState.watch else .learning) ≠ .survey := by split <;> decide
      exact (begins r.zone false _ _ valid (startRefusal_none passes) monitored.1 (by simp [monitored.2])).trans
        (.quiet (.refreshGroups _ _))

theorem zoneSurveyAnswer (z : Nat) (s : State) : NightMoves s (zoneSurveyAnswer z s).state := by
  unfold Machine.zoneSurveyAnswer
  split
  · exact refl s
  · next valid =>
    split
    · exact refl s
    · next passes =>
      have valid : ZoneValid z := (zoneOk_iff z).mp (by simpa using valid)
      exact (begins z true .survey (s.zone z).judge valid (startRefusal_none passes) (by decide) (by decide)).trans
        (.quiet (.refreshGroups _ _))

theorem isClosing_eq (s : State) (z : Nat) : isClosing (s.zone z) = decide (nightState s z = some .closing) := by
  unfold isClosing nightState
  cases (s.zone z).night <;> simp

theorem zoneStopAnswer (z : Nat) (s : State) : NightMoves s (zoneStopAnswer z s).state := by
  unfold Machine.zoneStopAnswer
  split
  · exact refl s
  · next valid =>
    split
    · exact refl s
    · rw [isClosing_eq]
      split
      · next closing => exact .stopsLater z (by simpa using closing)
      · next free =>
        exact ((stops z ((zoneOk_iff z).mp (by simpa using valid)) (by simpa using free)).trans
          (.quiet (.raiseChange _ _ _))).trans (.quiet (.refreshGroups _ _))

theorem acceptLevelAnswer (z : Nat) (s : State) : NightMoves s (acceptLevelAnswer z s).state := by
  unfold Machine.acceptLevelAnswer
  split
  · exact refl s
  · split
    · exact refl s
    · next armed =>
      split
      · exact refl s
      · next f _ =>
        have rebased := (rebases z f (by simpa using armed)).trans (.quiet (.raiseChange z (s.zone z).monitor _))
        rw [okWith_state]
        unfold acceptLevel
        dsimp only
        split
        · exact rebased
        · exact rebased.trans (.quiet (.refreshGroups _ _))

theorem resetZoneAnswer (z : Nat) (s : State) : NightMoves s (resetZoneAnswer z s).state := by
  unfold Machine.resetZoneAnswer
  split
  · exact refl s
  · next valid =>
    exact ((resets z ((zoneOk_iff z).mp (by simpa using valid))).trans (.quiet (.raiseChange _ _ _))).trans
      (.quiet (.refreshGroups _ _))

/-! ### The self-test (Chapter 11) -/

theorem testStartAnswer (test : Nat) (s : State) : NightMoves s (testStartAnswer test s).state := by
  unfold Machine.testStartAnswer
  split
  · exact refl s
  · next idle =>
    split
    · exact refl s
    · exact .testQueued test (by simpa using idle)

theorem testCancelAnswer (s : State) : NightMoves s (testCancelAnswer s).state := by
  unfold Machine.testCancelAnswer
  split
  · exact refl s
  · exact refl s
  · next queued => exact .testCancelled _ _ queued

end NightMoves

/-- What a command other than a reset does, or what a reset that occurs leaves. -/
theorem exec_moves {c : Instr} {s t : State} (e : exec c s = .next t) :
    NightMoves s t ∨ ∃ l, t = fullReset l s ∨ t = runtimeReset l s := by
  cases c
  case addMeter => exact .inl (.serve_quiet Quiet.addMeterAnswer e)
  case removeMeter => exact .inl (.serve_quiet Quiet.removeMeterAnswer e)
  case replaceMeter => exact .inl (.serve_quiet Quiet.replaceAnswer e)
  case attachMeter => exact .inl (.serve_quiet Quiet.attachAnswer e)
  case meterRead => exact .inl (.serve_quiet Quiet.meterReadAnswer e)
  case reading => exact .inl (.serve_withFields (owner := readingAnswer) NightMoves.takeRecord e)
  case readingBatch events => exact .inl (.serve_withFields (fun b u => NightMoves.batchAnswer b events u) e)
  case clockMark => exact .inl (.serve_withFields NightMoves.clockMarkAnswer e)
  case partSet => exact .inl (.serve_withFields NightMoves.partSetAnswer e)
  case partStatus => exact .inl (.serve_quiet (fun _ u => Quiet.refl u) e)
  case zoneSet => exact .inl (.serve_withFields NightMoves.zoneSetAnswer e)
  case forceClose => exact .inl (.serve_withFields NightMoves.forceCloseAnswer e)
  case zoneStart => exact .inl (.serve_withFields NightMoves.zoneStartAnswer e)
  case zoneStop => exact .inl (.serve_withFields NightMoves.zoneStopAnswer e)
  case zoneSurvey => exact .inl (.serve_withFields NightMoves.zoneSurveyAnswer e)
  case excludeNight => exact .inl (.serve_quiet Quiet.excludeNightAnswer e)
  case acceptLevel => exact .inl (.serve_withFields NightMoves.acceptLevelAnswer e)
  case ackZone => exact .inl (.serve_quiet Quiet.ackZoneAnswer e)
  case resetZone => exact .inl (.serve_withFields NightMoves.resetZoneAnswer e)
  case zoneRead => exact .inl (.serve_quiet Quiet.zoneReadAnswer e)
  case zoneProfile => exact .inl (.serve_quiet Quiet.zoneProfileAnswer e)
  case groupSet => exact .inl (.serve_quiet Quiet.groupSetAnswer e)
  case groupRead => exact .inl (.serve_quiet Quiet.groupReadAnswer e)
  case historyRead => exact .inl (.serve_quiet Quiet.historyReadAnswer e)
  case unfreeze => exact .inl (.serve_quiet Quiet.unfreezeAnswer e)
  case reportHold => exact .inl (.serve_quiet (fun _ => Quiet.reportHoldAnswer) e)
  case reportRelease => exact .inl (.serve_quiet (fun _ => Quiet.reportReleaseAnswer) e)
  case captureRead => exact .inl (.serve_quiet (fun _ u => Quiet.refl u) e)
  case clearCapture => exact .inl (.serve_quiet (fun _ u => .of_schedule rfl) e)
  case testStart => exact .inl (.serve_withFields NightMoves.testStartAnswer e)
  case testCancel => exact .inl (.serve_withFields (fun _ => NightMoves.testCancelAnswer) e)
  case testRead => exact .inl (.serve_quiet (fun _ u => Quiet.refl u) e)
  case testClear => exact .inl (.serve_quiet (fun _ u => .of_schedule rfl) e)
  case noticeFetch => exact .inl (.serve_quiet (fun _ u => .of_schedule rfl) e)
  case restart => exact .inl (.serve_quiet Quiet.restartAnswer e)
  case unknownKind =>
    simp only [exec, execUnknownKind] at e
    split at e
    · cases e
      exact .inl (.refl _)
    · exact .inl (.serve (fun _ u => NightMoves.refl u) e)
  case restartTakesEffect =>
    simp only [exec, execRestartTakesEffect] at e
    split at e <;> cases e
    · exact .inr ⟨_, .inr rfl⟩
    · exact .inr ⟨_, .inl rfl⟩
    · exact .inl (.refl _)
  case frameReceived =>
    simp only [exec, execFrameReceived] at e
    split at e <;> cases e <;> exact .inl (.of_schedule rfl)
  case interByteGap =>
    cases e
    exact .inl (.of_schedule rfl)
  case resetPinAssert =>
    have e : Host.Outcome.next (abandonAll s) = .next t := e
    injection e with e
    exact .inl (e ▸ .abandons)
  case resetPinRelease high =>
    simp only [exec, execResetPinRelease] at e
    split at e <;> cases e
    · exact .inr ⟨_, .inl rfl⟩
    · exact .inl (.refl _)
  case startupReady =>
    simp only [exec, execStartupReady] at e
    split at e <;> cases e <;> exact .inl (.of_schedule rfl)
  case closeStart =>
    simp only [exec, execCloseStart] at e
    split at e
    · split at e <;> cases e
      · next ready => exact .inl (.closeStarts _ _ ready)
      · exact .inl (.refl _)
    · cases e
      exact .inl (.refl _)
  case testRunStart =>
    simp only [exec, execTestRunStart] at e
    split at e
    · split at e <;> cases e
      · next ready => exact .inl (.testStarts _ ready)
      · exact .inl (.refl _)
    · cases e
      exact .inl (.refl _)
  case closeCompletion =>
    simp only [exec, execCloseCompletion] at e
    split at e
    · split at e <;> cases e
      · next inService => exact .inl (.closes _ inService)
      · exact .inl (.refl _)
    · cases e
      exact .inl (.refl _)
  case testRunCompletion =>
    simp only [exec, execTestRunCompletion] at e
    split at e
    · split at e <;> cases e
      · next inService => exact .inl (.testEnds _ inService)
      · exact .inl (.refl _)
    · cases e
      exact .inl (.refl _)

end Sys2Proof.Machine
end

section
/-! SUPPORT. The completion of a close (R81), as one change of its zone; and what it leaves alone. -/

namespace Sys2Proof.Machine

/-! ### What the stages leave alone -/

/-- Two states that differ in their zones, meters, groups, link and capture record at most. -/
structure BesideZones (s t : State) : Prop where
  frame : { t with zones := s.zones, meters := s.meters, groups := s.groups, link := s.link, capture := s.capture } = s

namespace BesideZones

theorem refl (s : State) : BesideZones s s := ⟨rfl⟩

theorem trans {s t u : State} (h : BesideZones s t) (k : BesideZones t u) : BesideZones s u :=
  ⟨(congrArg (fun v : State => { v with
      zones := s.zones, meters := s.meters, groups := s.groups, link := s.link, capture := s.capture }) k.frame).trans h.frame⟩

theorem settings {s t : State} (h : BesideZones s t) : t.settings = s.settings := (congrArg State.settings h.frame :)
theorem closeQueue {s t : State} (h : BesideZones s t) : t.closeQueue = s.closeQueue := (congrArg State.closeQueue h.frame :)
theorem engine {s t : State} (h : BesideZones s t) : t.engine = s.engine := (congrArg State.engine h.frame :)
theorem test {s t : State} (h : BesideZones s t) : t.test = s.test := (congrArg State.test h.frame :)
theorem now {s t : State} (h : BesideZones s t) : t.now = s.now := (congrArg State.now h.frame :)

theorem setZone (s : State) (z : Nat) (v : Zone) : BesideZones s (s.setZone z v) := ⟨rfl⟩

theorem updZone (s : State) (z : Nat) (f : Zone → Zone) : BesideZones s (s.updZone z f) := ⟨rfl⟩

theorem updAttachedCovers (s : State) (z : Nat) (f : Cover → Cover) : BesideZones s (s.updAttachedCovers z f) :=
  ⟨(congrArg (fun v : State => { v with zones := s.zones, groups := s.groups, link := s.link, capture := s.capture })
    (updAttachedCovers_frame s z f) :)⟩

theorem createNight (z : Nat) (survey : Bool) (s : State) : BesideZones s (createNight z survey s) :=
  (updZone s z _).trans (updAttachedCovers _ z _)

theorem freeNight (z : Nat) (s : State) : BesideZones s (freeNight z s) :=
  (updZone s z _).trans (updAttachedCovers _ z _)

theorem offerCauses (z : Nat) (causes : CauseSet) (s : State) : BesideZones s (offerCauses z causes s) := by
  unfold Machine.offerCauses
  induction causes.toList generalizing s with
  | nil => exact refl s
  | cons c rest ih => exact (⟨rfl⟩ : BesideZones s (s.offerFault (.zoneCause c) none (some z) s.now)).trans (ih _)

theorem recomputeGroups (z : Nat) (s : State) : BesideZones s (recomputeGroups z s) :=
  ⟨(congrArg (fun v : State => { v with zones := s.zones, meters := s.meters, link := s.link, capture := s.capture })
    (foldGroups_frame (groupsOf s z) s) :)⟩

theorem raiseIf (s : State) (b : Bool) (n : Notice) : BesideZones s (s.raiseIf b n) := by
  cases b <;> exact ⟨rfl⟩

theorem raiseGroupChanges (gs : List Nat) (s : State) : BesideZones s (raiseGroupChanges gs s) :=
  ⟨(congrArg (fun v : State => { v with zones := s.zones, meters := s.meters, groups := s.groups, capture := s.capture })
    (raiseGroupChanges_frame gs s) :)⟩

theorem stageCauses (c : CloseItem) (f : Figures) (s : State) : BesideZones s (stageCauses c f s) :=
  (setZone s _ _).trans (offerCauses _ _ _)

theorem stageJudge (c : CloseItem) (v : Verdict) (s : State) : BesideZones s (stageJudge c v s) := updZone s _ _

theorem stagePublish (c : CloseItem) (f : Figures) (v : Verdict) (s : State) : BesideZones s (stagePublish c f v s) :=
  updZone s _ _

theorem stageHistory (c : CloseItem) (f : Figures) (v : Verdict) (s : State) : BesideZones s (stageHistory c f v s) :=
  updZone s _ _

theorem stageNotices (c : CloseItem) (f : Figures) (v : Verdict) (before : MonitorState) (newly : CauseSet)
    (changed : List Nat) (s : State) : BesideZones s (stageNotices c f v before newly changed s) :=
  (((raiseIf s _ _).trans (raiseIf _ _ _)).trans (raiseIf _ _ _)).trans (raiseGroupChanges _ _)

theorem stageFree (c : CloseItem) (s : State) : BesideZones s (stageFree c s) :=
  (freeNight c.zone s).trans (updZone _ _ _)

theorem stageNext (c : CloseItem) (s : State) : BesideZones s (stageNext c s) := by
  unfold Machine.stageNext
  split
  · exact createNight _ _ s
  · exact refl s

end BesideZones

/-! ### Stages 3 to 8 -/

/-- R81: the verdict of stage 4, on the state before the completion. -/
def closeVerdict (c : CloseItem) (s : State) : Verdict :=
  verdictOf ((s.zone c.zone).evaluate c.night c.captured (figuresOf s c.zone c.night c.captured)) c
    (figuresOf s c.zone c.night c.captured)

/-- R81: the state after stages 3 to 6. -/
def closeWritten (c : CloseItem) (s : State) : State :=
  stageHistory c (figuresOf s c.zone c.night c.captured) (closeVerdict c s)
    (stagePublish c (figuresOf s c.zone c.night c.captured) (closeVerdict c s)
      (stageJudge c (closeVerdict c s) (stageCauses c (figuresOf s c.zone c.night c.captured) s)))

/-- R81: the state after the groups and the notices of stages 7 and 8. -/
def closeAnnounced (c : CloseItem) (s : State) : State :=
  stageNotices c (figuresOf s c.zone c.night c.captured) (closeVerdict c s) (s.zone c.zone).monitor
    (newlyHeld (s.zone c.zone) ((stageCauses c (figuresOf s c.zone c.night c.captured) s).zone c.zone))
    (changedGroups c.zone (closeWritten c s)) (recomputeGroups c.zone (closeWritten c s))

theorem offerCauses_zone (z : Nat) (causes : CauseSet) (s : State) (j : Nat) :
    (offerCauses z causes s).zone j = s.zone j := by
  unfold offerCauses
  induction causes.toList generalizing s with
  | nil => rfl
  | cons c rest ih => rw [List.foldl_cons, ih]; rfl

theorem stageCauses_zone (c : CloseItem) (f : Figures) (s : State) (j : Nat) :
    (stageCauses c f s).zone j =
      if j = c.zone then (s.zone c.zone).evaluate c.night c.captured f else s.zone j := by
  rw [stageCauses, offerCauses_zone, State.zone_setZone]

theorem verdictOf_stageCauses (c : CloseItem) (s : State) :
    verdictOf ((stageCauses c (figuresOf s c.zone c.night c.captured) s).zone c.zone) c
      (figuresOf s c.zone c.night c.captured) = closeVerdict c s := by
  rw [stageCauses_zone, if_pos rfl, closeVerdict]

theorem recomputeGroups_zone (z : Nat) (s : State) (j : Nat) : (recomputeGroups z s).zone j = s.zone j :=
  foldGroups_zone _ s j

theorem State.raiseIf_zone (s : State) (b : Bool) (n : Notice) (j : Nat) : (s.raiseIf b n).zone j = s.zone j := by
  cases b <;> rfl

theorem raiseGroupChanges_zone (gs : List Nat) (s : State) (j : Nat) : (raiseGroupChanges gs s).zone j = s.zone j :=
  (congrArg (fun u : State => u.zone j) (raiseGroupChanges_frame gs s) :)

theorem stageNotices_zone (c : CloseItem) (f : Figures) (v : Verdict) (before : MonitorState) (newly : CauseSet)
    (changed : List Nat) (s : State) (j : Nat) : (stageNotices c f v before newly changed s).zone j = s.zone j := by
  rw [stageNotices, raiseGroupChanges_zone, State.raiseIf_zone, State.raiseIf_zone, State.raiseIf_zone]

/-- R81: a completion that is not void, by its stages. -/
theorem completeClose_stages {c : CloseItem} (unvoided : c.void = false) (s : State) :
    completeClose c s = { stageNext c (stageFree c (closeAnnounced c s)) with engine := none } := by
  unfold completeClose
  rw [if_neg (by simp [unvoided])]
  dsimp only
  rw [verdictOf_stageCauses]
  rfl

/-! ### The zone of a close -/

/-- R81 stages 3 to 6: what becomes of the zone. -/
def Zone.closed (zn : Zone) (c : CloseItem) (f : Figures) (v : Verdict) (now : Nat) : Zone :=
  let settled := (zn.evaluate c.night c.captured f).settle v c.night.survey
  let published := { settled with published := some (publishedRecord settled c f v), profile := some f.profile }
  published.record (nightRecord published c f v now) c.captured.freezeOnLeak

/-- R87: the night freed, and the next one created where the zone is still monitored. -/
def Zone.turnOver (zn : Zone) (c : CloseItem) (offset : Int) (now : Nat) : Zone :=
  let freed := { zn with night := none, lastClosed := some ⟨c.night.ws, c.night.we⟩ }
  if zn.monitor.monitored then freed.withNewNight offset now false else freed

theorem closeWritten_beside (c : CloseItem) (s : State) : BesideZones s (closeWritten c s) :=
  (((BesideZones.stageCauses c _ s).trans (.stageJudge c _ _)).trans (.stagePublish c _ _ _)).trans (.stageHistory c _ _ _)

theorem closeAnnounced_beside (c : CloseItem) (s : State) : BesideZones s (closeAnnounced c s) :=
  ((closeWritten_beside c s).trans (.recomputeGroups _ _)).trans (.stageNotices c _ _ _ _ _ _)

theorem closeWritten_zone (c : CloseItem) (s : State) (j : Nat) :
    (closeWritten c s).zone j =
      if j = c.zone then (s.zone c.zone).closed c (figuresOf s c.zone c.night c.captured) (closeVerdict c s) s.now
      else s.zone j := by
  have now := (BesideZones.stageCauses c (figuresOf s c.zone c.night c.captured) s).now
  unfold closeWritten stageHistory stagePublish stageJudge
  by_cases here : j = c.zone
  · simp [here, State.zone_updZone_self, stageCauses_zone, Zone.closed, now]
  · simp [here, State.zone_updZone_ne, stageCauses_zone]

theorem turnOver_zone (c : CloseItem) (s : State) (j : Nat) :
    (stageNext c (stageFree c s)).zone j =
      if j = c.zone then (s.zone c.zone).turnOver c s.settings.offset s.now else s.zone j := by
  have free := BesideZones.stageFree c s
  have freed (j : Nat) : (stageFree c s).zone j =
      if j = c.zone then { s.zone c.zone with night := none, lastClosed := some ⟨c.night.ws, c.night.we⟩ } else s.zone j := by
    rw [stageFree, State.zone_updZone, freeNight_zone, freeNight_zone, if_pos rfl]
    by_cases here : j = c.zone <;> simp [here]
  unfold stageNext Zone.turnOver
  rw [freed, if_pos rfl]
  dsimp only
  split
  · rw [createNight_zone, freed, if_pos rfl, free.settings, free.now]
    by_cases here : j = c.zone <;> simp [here, freed]
  · exact freed j

/-- R81: the zones after a completion that is not void. -/
theorem completeClose_zone {c : CloseItem} (unvoided : c.void = false) (s : State) (j : Nat) :
    (completeClose c s).zone j =
      if j = c.zone then
        ((s.zone c.zone).closed c (figuresOf s c.zone c.night c.captured) (closeVerdict c s) s.now).turnOver c
          s.settings.offset s.now
      else s.zone j := by
  have announced := closeAnnounced_beside c s
  have idle (u : State) : ({ u with engine := none } : State).zone j = u.zone j := rfl
  have zone (j : Nat) : (closeAnnounced c s).zone j = (closeWritten c s).zone j := by
    rw [closeAnnounced, stageNotices_zone, recomputeGroups_zone]
  rw [completeClose_stages unvoided, idle, turnOver_zone, announced.settings, announced.now, zone, zone, closeWritten_zone,
    closeWritten_zone, if_pos rfl]
  by_cases here : j = c.zone <;> simp [here]

/-- R81: what a completion leaves alone; it returns the engine to IDLE. -/
theorem completeClose_frame (c : CloseItem) (s : State) : BesideZones { s with engine := none } (completeClose c s) := by
  have idle {u v : State} (h : BesideZones u v) : BesideZones { u with engine := none } { v with engine := none } :=
    ⟨(congrArg (fun w : State => { w with engine := none }) h.frame :)⟩
  cases void : c.void with
  | true =>
    have voided : completeClose c s = { s with engine := none } := by simp [completeClose, void]
    rw [voided]
    exact .refl _
  | false =>
    rw [completeClose_stages void]
    exact idle (((closeAnnounced_beside c s).trans (.stageFree c _)).trans (.stageNext c _))

/-! ### The settings, the night and the monitor state of a close's zone -/

/-- R157, R158: what the history takes changes neither settings nor night. -/
theorem Zone.record_quiet (zn : Zone) (r : NightRecord) (freeze : Bool) : zn.Quiet (zn.record r freeze) := by
  unfold Zone.record
  split
  · exact .of_eq rfl rfl rfl rfl rfl rfl
  · dsimp only
    split <;> exact .of_eq rfl rfl rfl rfl rfl rfl

/-- R81: stages 3, 5 and 6 change neither settings nor night of the zone, so stage 4's settlement decides. -/
theorem Zone.closed_quiet (zn : Zone) (c : CloseItem) (f : Figures) (v : Verdict) (now : Nat) :
    (zn.settle v c.night.survey).Quiet (zn.closed c f v now) := by
  have published : (zn.settle v c.night.survey).Quiet { (zn.evaluate c.night c.captured f).settle v c.night.survey with
      published := some (publishedRecord ((zn.evaluate c.night c.captured f).settle v c.night.survey) c f v)
      profile := some f.profile } := by
    unfold Zone.settle Zone.evaluate
    dsimp only
    split <;> exact .of_eq rfl rfl rfl rfl rfl rfl
  exact published.trans (Zone.record_quiet _ _ _)

/-- R84: where neither a survey night nor a pending stop settles the zone. -/
theorem Zone.settle_continues {zn : Zone} {survey : Bool} (runs : (survey || zn.stopPending) = false) (v : Verdict) :
    zn.settle v survey = { zn with judge := v.judge, monitor := v.monitor } := by
  simp [Zone.settle, runs]

/-- R84: where a survey night or a pending stop does. -/
theorem Zone.settle_stops {zn : Zone} {survey : Bool} (stops : (survey || zn.stopPending) = true) (v : Verdict) :
    zn.settle v survey = { zn.applyStaged with judge := v.judge, monitor := .standby, stopPending := false } := by
  simp [Zone.settle, stops, Zone.enterStandby, Zone.applyStaged]

theorem trackFlag_monitored {before : MonitorState} (monitored : before.monitored = true) (hits : List HitFlag) (run : Nat)
    (flag : HitFlag) (w c : Nat) : (trackFlag before hits run flag w c).state.monitored = true := by
  have suspect (t : Track) (h : t.state.monitored = true) : (stepSuspect flag t).state.monitored = true := by
    unfold stepSuspect
    split
    · rfl
    · exact h
  have confirm (t : Track) (h : t.state.monitored = true) : (stepConfirm w t).state.monitored = true := by
    unfold stepConfirm
    split
    · rfl
    · exact h
  have relax (t : Track) (h : t.state.monitored = true) : (stepRelax t).state.monitored = true := by
    unfold stepRelax
    split
    · rfl
    · exact h
  have clear (t : Track) (h : t.state.monitored = true) : (stepClear flag c t).state.monitored = true := by
    unfold stepClear
    split
    · exact h
    · split
      · rfl
      · exact h
  unfold trackFlag
  dsimp only
  split
  · exact clear _ monitored
  · exact relax _ (confirm _ (suspect _ monitored))

/-- R118: a night that is not judged leaves the monitor state, and one that is judged leaves the zone monitored. -/
theorem judgeNight_monitor (monitor : MonitorState) (j : Judgement) (survey excluded valid negative : Bool) (mnf : Option Int)
    (p : Params) :
    (judgeNight monitor j survey excluded valid negative mnf p).monitor = monitor ∨
      monitor.monitored = true ∧ (judgeNight monitor j survey excluded valid negative mnf p).monitor.monitored = true := by
  unfold judgeNight
  split
  · exact .inl rfl
  · split
    · next judged =>
      have monitored : monitor.monitored = true := by
        simp only [judgeable, Bool.and_eq_true] at judged
        exact judged.1.1.1.1
      refine .inr ⟨monitored, ?_⟩
      split
      · unfold learnNight
        dsimp only
        split <;> rfl
      · exact trackFlag_monitored monitored _ _ _ _ _
    · exact .inl rfl

theorem closeVerdict_monitor (c : CloseItem) (s : State) :
    (closeVerdict c s).monitor = (s.zone c.zone).monitor ∨
      (s.zone c.zone).monitor.monitored = true ∧ (closeVerdict c s).monitor.monitored = true :=
  judgeNight_monitor _ _ _ _ _ _ _ _

end Sys2Proof.Machine
end

section
/-! SUPPORT. R45, R75, R76, R107: the close queue, the engine and the zones' nights agree, zone by zone; every move keeps it. -/

namespace Sys2Proof.Machine

/-! ### The engine's starts and completions, and a close that is voided -/

section
variable {s : State} {z : Nat}

theorem closeReady_some {nt : Night} (h : closeReady s = some (z, nt)) :
    s.engine = none ∧ ∃ rest, s.closeQueue = .zone z :: rest ∧ (s.zone z).night = some nt := by
  unfold closeReady at h
  split at h
  · next j rest idle queue =>
    obtain ⟨nt', night, e⟩ := Option.map_eq_some_iff.mp h
    cases e
    exact ⟨idle, rest, queue, night⟩
  · cases h

theorem testReady_some {test : Nat} (h : testReady s = some test) :
    s.engine = none ∧ ∃ rest, s.closeQueue = .test :: rest ∧ s.test.request = .queued test := by
  unfold testReady at h
  split at h
  · next rest n idle queue request =>
    cases h
    exact ⟨idle, rest, queue, request⟩
  · cases h

theorem testInService_some {test : Nat} (h : testInService s = some test) :
    s.engine = some .testRun ∧ s.test.request = .running test := by
  unfold testInService at h
  split at h
  · next engine request =>
    cases h
    exact ⟨engine, request⟩
  · cases h

/-- R90: the item in service after a close of zone `z` is voided. -/
def voidItem (z : Nat) : Option Item → Option Item
  | some (.close c) => some (.close (if c.zone = z then { c with void := true } else c))
  | some .testRun => some .testRun
  | none => none

theorem voidClose_eq (z : Nat) (s : State) : voidClose z s = { s with engine := voidItem z s.engine } := by
  obtain ⟨-, -, -, -, -, -, -, -, engine⟩ := s
  unfold voidClose voidItem
  rcases engine with - | (c | -)
  · rfl
  · dsimp only
    split <;> rfl
  · rfl

theorem voidItem_testRun (z : Nat) (engine : Option Item) : voidItem z engine = some .testRun ↔ engine = some .testRun := by
  rcases engine with - | (c | -) <;> simp [voidItem]

/-- R117, R90: the parts of the state after RESET_ZONE has taken the zone's night. -/
theorem dropNight_zone (z : Nat) (s : State) (j : Nat) :
    (dropNight z s).zone j = if j = z then { s.zone z with night := none } else s.zone j := by
  unfold dropNight
  split
  · next night =>
    split
    · next here => rw [here, ← night]
    · rfl
  · split
    · rw [voidClose_eq, ← freeNight_zone]
      rfl
    · exact discardNight_zone z s j

theorem dropNight_engine (z : Nat) (s : State) :
    (dropNight z s).engine = if nightState s z = some .closing then voidItem z s.engine else s.engine := by
  have free : (freeNight z s).engine = s.engine := (BesideZones.freeNight z s).engine
  unfold dropNight nightState
  split
  · next night => simp [night]
  · next nt night =>
    rw [night]
    split
    · next closing => simp [voidClose_eq, free, closing]
    · next other =>
      rw [if_neg (by simpa using other)]
      exact free

/-- R78: where only a QUEUED night has an entry, the entry leaves the queue whatever the night. -/
theorem dropNight_closeQueue (listed : .zone z ∈ s.closeQueue → nightState s z = some .queued) :
    (dropNight z s).closeQueue = s.closeQueue.filter fun e => decide (e ≠ .zone z) := by
  have free : (freeNight z s).closeQueue = s.closeQueue := (BesideZones.freeNight z s).closeQueue
  have absent (other : nightState s z ≠ some .queued) :
      s.closeQueue = s.closeQueue.filter fun e => decide (e ≠ .zone z) := by
    refine (List.filter_eq_self.mpr fun e he => ?_).symm
    have away : e ≠ .zone z := by
      rintro rfl
      exact other (listed he)
    simp [away]
  unfold dropNight
  split
  · next night => exact absent (by simp [nightState, night])
  · next nt night =>
    split
    · next closing =>
      rw [voidClose_eq]
      exact free.trans (absent (by simp [nightState, night, closing]))
    · rw [← free]
      rfl

theorem dropNight_test (z : Nat) (s : State) : (dropNight z s).test = s.test := by
  have free : (freeNight z s).test = s.test := (BesideZones.freeNight z s).test
  unfold dropNight
  split
  · rfl
  · split
    · rw [voidClose_eq]
      exact free
    · exact free

end

/-! ### The agreement, zone by zone -/

/-- The night that an unvoided close of zone `z` in service holds. -/
def serviceNight (engine : Option Item) (z : Nat) : Option Night :=
  match engine with
  | some (.close c) => if c.zone = z ∧ c.void = false then some c.night else none
  | _ => none

/-- The zone's night, where it is CLOSING. -/
def Zone.closingNight (zn : Zone) : Option Night := zn.night.filter fun nt => decide (nt.state = .closing)

/-- What zone `z` has to do with the close queue and the engine. -/
structure ZoneInStep (s : State) (z : Nat) : Prop where
  queued : .zone z ∈ s.closeQueue ↔ nightState s z = some .queued
  service : serviceNight s.engine z = (s.zone z).closingNight
  life : (s.zone z).LifeOk
  outside : ¬ ZoneValid z → (s.zone z).night = none

/-- What the self-test has to do with the close queue and the engine. -/
structure TestInStep (s : State) : Prop where
  apart : s.closeQueue.Nodup
  queued : .test ∈ s.closeQueue ↔ ∃ n, s.test.request = .queued n
  running : s.engine = some .testRun ↔ ∃ n, s.test.request = .running n

theorem serviceNight_eq_some {engine : Option Item} {z : Nat} {nt : Night} :
    serviceNight engine z = some nt ↔ ∃ c, engine = some (.close c) ∧ c.zone = z ∧ c.void = false ∧ c.night = nt := by
  unfold serviceNight
  split
  · next c =>
    simp only [Option.ite_none_right_eq_some, Option.some.injEq, Item.close.injEq, exists_eq_left']
    exact and_assoc
  · next other =>
    refine ⟨fun h => (nomatch h), fun ⟨c, h, _⟩ => absurd h (other c)⟩

theorem serviceNight_voidItem (z j : Nat) (engine : Option Item) :
    serviceNight (voidItem z engine) j = if j = z then none else serviceNight engine j := by
  rcases engine with - | (c | -)
  · simp [voidItem, serviceNight]
  · by_cases here : c.zone = z
    · by_cases same : j = z
      · simp [voidItem, serviceNight, here, same]
      · simp [voidItem, serviceNight, here, same, Ne.symm same]
    · by_cases same : j = z <;> simp [voidItem, serviceNight, here, same]
  · simp [voidItem, serviceNight]

theorem Zone.closingNight_eq_some {zn : Zone} {nt : Night} :
    zn.closingNight = some nt ↔ zn.night = some nt ∧ nt.state = .closing := by
  simp [Zone.closingNight, Option.filter_eq_some_iff]

theorem nightState_eq_some {s : State} {z : Nat} {n : NightState} :
    nightState s z = some n ↔ ∃ nt, (s.zone z).night = some nt ∧ nt.state = n := Option.map_eq_some_iff

/-- R45, R75: a zone's night is CLOSING exactly when an unvoided close in service holds it. -/
theorem service_iff (s : State) :
    (∀ z, serviceNight s.engine z = (s.zone z).closingNight) ↔
      (∀ z, nightState s z = some .closing ↔ ∃ c, s.engine = some (.close c) ∧ c.zone = z ∧ c.void = false) ∧
        ∀ c, s.engine = some (.close c) → c.void = false → (s.zone c.zone).night = some c.night := by
  constructor
  · refine fun h => ⟨fun z => ⟨fun closing => ?_, fun ⟨c, service, here, unvoided⟩ => ?_⟩, fun c service unvoided => ?_⟩
    · obtain ⟨nt, night, state⟩ := nightState_eq_some.mp closing
      have held := (h z).trans (Zone.closingNight_eq_some.mpr ⟨night, state⟩)
      obtain ⟨c, service, here, unvoided, -⟩ := serviceNight_eq_some.mp held
      exact ⟨c, service, here, unvoided⟩
    · have held := (h z).symm.trans (serviceNight_eq_some.mpr ⟨c, service, here, unvoided, rfl⟩)
      exact nightState_eq_some.mpr ⟨c.night, Zone.closingNight_eq_some.mp held⟩
    · have held := (h c.zone).symm.trans (serviceNight_eq_some.mpr ⟨c, service, rfl, unvoided, rfl⟩)
      exact (Zone.closingNight_eq_some.mp held).1
  · rintro ⟨closing, holds⟩ z
    refine Option.ext fun nt => ?_
    rw [serviceNight_eq_some, Zone.closingNight_eq_some]
    constructor
    · rintro ⟨c, service, rfl, unvoided, rfl⟩
      have night := holds c service unvoided
      obtain ⟨nt, night', state⟩ := nightState_eq_some.mp ((closing c.zone).mpr ⟨c, service, rfl, unvoided⟩)
      cases night.symm.trans night'
      exact ⟨night, state⟩
    · rintro ⟨night, state⟩
      obtain ⟨c, service, rfl, unvoided⟩ := (closing z).mp (nightState_eq_some.mpr ⟨nt, night, state⟩)
      exact ⟨c, service, rfl, unvoided, Option.some.inj ((holds c service unvoided).symm.trans night)⟩

theorem closeOk_iff (s : State) : CloseOk s ↔ TestInStep s ∧ ∀ z, ZoneInStep s z := by
  constructor
  · rintro ⟨⟨apart, zoneQueued, testQueued⟩, ⟨running, closing, holds⟩, life, outside⟩
    have service := (service_iff s).mpr ⟨closing, holds⟩
    exact ⟨⟨apart, testQueued, running⟩, fun z => ⟨zoneQueued z, service z, life z, outside z⟩⟩
  · rintro ⟨⟨apart, testQueued, running⟩, zones⟩
    have service := (service_iff s).mp fun z => (zones z).service
    exact ⟨⟨apart, fun z => (zones z).queued, testQueued⟩, ⟨running, service⟩, fun z => (zones z).life,
      fun z => (zones z).outside⟩

/-- A zone without a night: in STANDBY, no entry, no close. -/
theorem zoneInStep_of_none {s : State} {z : Nat} (night : (s.zone z).night = none) :
    ZoneInStep s z ↔ .zone z ∉ s.closeQueue ∧ serviceNight s.engine z = none ∧ (s.zone z).monitor = .standby ∧
      (s.zone z).stopPending = false := by
  have state : nightState s z = none := by rw [nightState, night]; rfl
  have closing : (s.zone z).closingNight = none := by rw [Zone.closingNight, night]; rfl
  constructor
  · rintro ⟨queued, service, ⟨standby, -, -, stop⟩, -⟩
    refine ⟨by simp [queued, state], service.trans closing, standby.mpr night, ?_⟩
    simpa [night] using stop
  · rintro ⟨queued, service, standby, stop⟩
    exact ⟨by simp [queued, state], service.trans closing.symm, by simp [Zone.LifeOk, night, standby, stop], fun _ => night⟩

/-- A zone with a night: its entry and its close as the night's state has it. -/
theorem zoneInStep_of_some {s : State} {z : Nat} {nt : Night} (night : (s.zone z).night = some nt) :
    ZoneInStep s z ↔ (.zone z ∈ s.closeQueue ↔ nt.state = .queued) ∧
      serviceNight s.engine z = (if nt.state = .closing then some nt else none) ∧ (s.zone z).monitor ≠ .standby ∧
      (nt.survey = true ↔ (s.zone z).monitor = .survey) ∧ (nt.cause.isSome ↔ nt.state = .queued ∨ nt.state = .closing) ∧
      ((s.zone z).stopPending = true → nt.state = .closing) ∧ ZoneValid z := by
  have state : nightState s z = some nt.state := by rw [nightState, night]; rfl
  have closing : (s.zone z).closingNight = if nt.state = .closing then some nt else none := by
    rw [Zone.closingNight, night]
    simp [Option.filter]
  have life : (s.zone z).LifeOk ↔ (s.zone z).monitor ≠ .standby ∧ (nt.survey = true ↔ (s.zone z).monitor = .survey) ∧
      (nt.cause.isSome ↔ nt.state = .queued ∨ nt.state = .closing) ∧
      ((s.zone z).stopPending = true → nt.state = .closing) := by
    simp [Zone.LifeOk, night]
  constructor
  · rintro ⟨queued, service, lives, outside⟩
    obtain ⟨active, survey, cause, stop⟩ := life.mp lives
    refine ⟨by simp [queued, state], service.trans closing, active, survey, cause, stop, ?_⟩
    by_contra invalid
    cases night.symm.trans (outside invalid)
  · rintro ⟨queued, service, active, survey, cause, stop, valid⟩
    exact ⟨by simp [queued, state], service.trans closing.symm, life.mpr ⟨active, survey, cause, stop⟩,
      fun invalid => absurd valid invalid⟩

/-! ### Quiet changes -/

theorem Night.Quiet.state_iff {nt nt' : Night} (h : nt.Quiet nt') {n : NightState} (frozen : n.isOpen = false) :
    nt'.state = n ↔ nt.state = n := by
  rcases h with rfl | ⟨wasOpen, isOpen, -⟩
  · rfl
  · constructor
    · rintro rfl
      simp [frozen] at isOpen
    · rintro rfl
      simp [frozen] at wasOpen

theorem Night.Quiet.survey_cause {nt nt' : Night} (h : nt.Quiet nt') : nt'.survey = nt.survey ∧ nt'.cause = nt.cause := by
  rcases h with rfl | ⟨-, -, -, same⟩
  · exact ⟨rfl, rfl⟩
  · rw [same]
    exact ⟨rfl, rfl⟩

theorem Night.Quiet.closing {nt nt' : Night} (h : nt.Quiet nt') (closing : nt'.state = .closing) : nt' = nt := by
  rcases h with rfl | ⟨-, isOpen, -⟩
  · rfl
  · simp [closing, NightState.isOpen] at isOpen

theorem Zone.Quiet.nights {zn zn' : Zone} (h : zn.Quiet zn') :
    (zn.night = none ∧ zn'.night = none) ∨ ∃ nt nt', zn.night = some nt ∧ zn'.night = some nt' ∧ nt.Quiet nt' := by
  have night := h.night
  cases hn : zn.night <;> cases hn' : zn'.night <;> rw [hn, hn'] at night <;> cases night
  · exact .inl ⟨rfl, rfl⟩
  · next same => exact .inr ⟨_, _, rfl, rfl, same⟩

theorem Zone.Quiet.nightState {zn zn' : Zone} (h : zn.Quiet zn') {n : NightState} (frozen : n.isOpen = false) :
    zn'.night.map (·.state) = some n ↔ zn.night.map (·.state) = some n := by
  rcases h.nights with ⟨hn, hn'⟩ | ⟨nt, nt', hn, hn', same⟩
  · rw [hn, hn']
  · simp [hn, hn', same.state_iff frozen]

theorem Zone.Quiet.closingNight {zn zn' : Zone} (h : zn.Quiet zn') : zn'.closingNight = zn.closingNight := by
  unfold Zone.closingNight
  rcases h.nights with ⟨hn, hn'⟩ | ⟨nt, nt', hn, hn', same⟩
  · rw [hn, hn']
  · have closing := same.state_iff (n := .closing) rfl
    by_cases k : nt'.state = .closing
    · simp [hn, hn', same.closing k]
    · simp [hn, hn', Option.filter, k, mt closing.mpr k]

theorem Zone.Quiet.lifeOk {zn zn' : Zone} (h : zn.Quiet zn') (ok : zn.LifeOk) : zn'.LifeOk := by
  rcases h.nights with ⟨hn, hn'⟩ | ⟨nt, nt', hn, hn', same⟩
  · simpa only [Zone.LifeOk, h.monitor, h.stopPending, hn, hn'] using ok
  · have queued := same.state_iff (n := .queued) rfl
    have closing := same.state_iff (n := .closing) rfl
    simpa [Zone.LifeOk, h.monitor, h.stopPending, hn, hn', same.survey_cause, queued, closing] using ok

theorem Zone.Quiet.night_none {zn zn' : Zone} (h : zn.Quiet zn') : zn'.night = none ↔ zn.night = none := by
  rcases h.nights with ⟨hn, hn'⟩ | ⟨nt, nt', hn, hn', -⟩ <;> simp [hn, hn']

theorem Quiet.zoneInStep {s t : State} (h : Quiet s t) {z : Nat} (ok : ZoneInStep s z) : ZoneInStep t z where
  queued := by
    rw [h.closeQueue, ok.queued]
    exact ((h.zones z).nightState rfl).symm
  service := by rw [h.engine, ok.service, (h.zones z).closingNight]
  life := (h.zones z).lifeOk ok.life
  outside invalid := (h.zones z).night_none.mpr (ok.outside invalid)

theorem Quiet.testInStep {s t : State} (h : Quiet s t) (ok : TestInStep s) : TestInStep t where
  apart := h.closeQueue ▸ ok.apart
  queued := by rw [h.closeQueue, h.request, ok.queued]
  running := by rw [h.engine, h.request, ok.running]

theorem Quiet.closeOk {s t : State} (h : Quiet s t) (ok : CloseOk s) : CloseOk t := by
  obtain ⟨test, zones⟩ := (closeOk_iff s).mp ok
  exact (closeOk_iff t).mpr ⟨h.testInStep test, fun z => h.zoneInStep (zones z)⟩

/-! ### Moves of one zone -/

/-- A change of the zones, the queue and the engine that concerns one zone alone. -/
structure OneZone (z : Nat) (s t : State) : Prop where
  zones : ∀ j, j ≠ z → t.zone j = s.zone j
  apart : s.closeQueue.Nodup → t.closeQueue.Nodup
  entries : ∀ e, e ≠ .zone z → (e ∈ t.closeQueue ↔ e ∈ s.closeQueue)
  engine : t.engine = some .testRun ↔ s.engine = some .testRun
  service : ∀ j, j ≠ z → serviceNight t.engine j = serviceNight s.engine j
  test : t.test = s.test

/-- R45: the moves of one zone keep the agreement where they keep it for that zone. -/
theorem CloseOk.of_oneZone {z : Nat} {s t : State} (ok : CloseOk s) (h : OneZone z s t)
    (here : ZoneInStep s z → ZoneInStep t z) : CloseOk t := by
  obtain ⟨test, zones⟩ := (closeOk_iff s).mp ok
  refine (closeOk_iff t).mpr ⟨⟨h.apart test.apart, ?_, ?_⟩, fun j => ?_⟩
  · rw [h.entries _ (by simp), h.test, test.queued]
  · rw [h.engine, h.test, test.running]
  · by_cases other : j = z
    · exact other ▸ here (zones z)
    · obtain ⟨queued, service, life, outside⟩ := zones j
      refine ⟨?_, ?_, ?_, ?_⟩
      · rw [h.entries _ (by simpa using other), queued, nightState, nightState, h.zones j other]
      · rw [h.service j other, h.zones j other, service]
      · rwa [h.zones j other]
      · rwa [h.zones j other]

namespace OneZone

/-- The zone changes, and nothing of the queue and the engine. -/
theorem of_rest {z : Nat} {s t : State} (zones : ∀ j, j ≠ z → t.zone j = s.zone j) (queue : t.closeQueue = s.closeQueue)
    (engine : t.engine = s.engine) (test : t.test = s.test) : OneZone z s t :=
  ⟨zones, fun apart => queue ▸ apart, fun _ _ => by rw [queue], by rw [engine], fun _ _ => by rw [engine], test⟩

theorem updZone (s : State) (z : Nat) (f : Zone → Zone) : OneZone z s (s.updZone z f) :=
  of_rest (fun _ other => State.zone_updZone_ne s f other) rfl rfl rfl

/-- The zone changes, and its entry leaves the queue. -/
theorem of_leaves {z : Nat} {s t : State} (zones : ∀ j, j ≠ z → t.zone j = s.zone j)
    (queue : t.closeQueue = s.closeQueue.filter fun e => decide (e ≠ .zone z)) (engine : t.engine = s.engine)
    (test : t.test = s.test) : OneZone z s t :=
  ⟨zones, fun apart => queue ▸ apart.filter _, fun e other => by simp [queue, other], by rw [engine],
    fun _ _ => by rw [engine], test⟩

theorem trans {z : Nat} {s t u : State} (h : OneZone z s t) (k : OneZone z t u) : OneZone z s u where
  zones j other := (k.zones j other).trans (h.zones j other)
  apart := k.apart ∘ h.apart
  entries e other := (k.entries e other).trans (h.entries e other)
  engine := k.engine.trans h.engine
  service j other := (k.service j other).trans (h.service j other)
  test := k.test.trans h.test

end OneZone

theorem CloseOk.zone {s : State} (ok : CloseOk s) (z : Nat) : ZoneInStep s z := ((closeOk_iff s).mp ok).2 z

theorem CloseOk.testInStep {s : State} (ok : CloseOk s) : TestInStep s := ((closeOk_iff s).mp ok).1

section
variable {s : State} {z : Nat}

/-- R50: a WAITING night is queued. -/
theorem CloseOk.queueNight (ok : CloseOk s) (cause : CloseCause) (waits : nightState s z = some .waiting) :
    CloseOk (queueNight z cause s) := by
  obtain ⟨nt, night, waiting⟩ := nightState_eq_some.mp waits
  obtain ⟨queued, service, active, survey, -, stop, valid⟩ := (zoneInStep_of_some night).mp (ok.zone z)
  have fresh : .zone z ∉ s.closeQueue := by simp [queued, waiting]
  have zone : (Machine.queueNight z cause s).zone z =
      { s.zone z with night := some { nt with state := .queued, cause := some cause } } := by
    simp [queueNight_zone, night]
  refine ok.of_oneZone (z := z) ⟨fun j other => by rw [queueNight_zone, if_neg other], fun apart => ?_, fun e other => ?_,
    Iff.rfl, fun _ _ => rfl, rfl⟩ fun _ => (zoneInStep_of_some (congrArg Zone.night zone)).mpr ⟨?_, ?_, ?_, ?_, ?_, ?_, valid⟩
  · exact List.nodup_append.mpr ⟨apart, by simp, fun e he e' he' => by
      rw [List.mem_singleton.mp he']
      exact fun same => fresh (same ▸ he)⟩
  · simp [Machine.queueNight, other]
  · simp [Machine.queueNight]
  · have engine : (Machine.queueNight z cause s).engine = s.engine := rfl
    simp [engine, service, waiting]
  · rwa [zone]
  · rwa [zone]
  · simp
  · rw [zone]
    intro pending
    cases waiting.symm.trans (stop pending)

/-- R48: a night is created for a zone in STANDBY. -/
theorem CloseOk.begin {survey : Bool} {monitor : MonitorState} (judge : Judgement) (ok : CloseOk s) (valid : ZoneValid z)
    (idle : (s.zone z).monitor = .standby) (active : monitor ≠ .standby) (surveys : survey = true ↔ monitor = .survey) :
    CloseOk (createNight z survey (s.updZone z fun zn => { zn with judge := judge, monitor := monitor })) := by
  have none : (s.zone z).night = none := (ok.zone z).life.1.mp idle
  obtain ⟨fresh, service, -, stop⟩ := (zoneInStep_of_none none).mp (ok.zone z)
  have beside : BesideZones s (createNight z survey (s.updZone z fun zn => { zn with judge := judge, monitor := monitor })) :=
    (BesideZones.updZone s z _).trans (.createNight z survey _)
  have zone (j : Nat) := createNight_zone z survey (s.updZone z fun zn => { zn with judge := judge, monitor := monitor }) j
  simp only [State.zone_updZone] at zone
  have change : OneZone z s _ := .of_rest (fun j other => by rw [zone, if_neg other, if_neg other]) beside.closeQueue
    beside.engine beside.test
  have here := (zone z).trans (if_pos rfl)
  refine ok.of_oneZone change fun _ => (zoneInStep_of_some (congrArg Zone.night here)).mpr ⟨?_, ?_, ?_, ?_, ?_, ?_, valid⟩
  · rw [beside.closeQueue]
    simp [fresh, newNight]
  · rw [beside.engine, service]
    simp [newNight]
  · rw [here]
    exact active
  · rw [here]
    exact surveys
  · simp [newNight]
  · rw [here]
    simp [Zone.withNewNight, Zone.applyStaged, stop]

/-- R112: a stop that discards the night. -/
theorem CloseOk.stop (ok : CloseOk s) (free : nightState s z ≠ some .closing) :
    CloseOk ((discardNight z s).updZone z Zone.enterStandby) := by
  have discarded := BesideZones.freeNight z s
  have zone (j : Nat) : ((discardNight z s).updZone z Zone.enterStandby).zone j =
      if j = z then { s.zone z with night := none }.enterStandby else s.zone j := by
    rw [State.zone_updZone, discardNight_zone, discardNight_zone, if_pos rfl]
    split <;> rfl
  have engine : ((discardNight z s).updZone z Zone.enterStandby).engine = s.engine := discarded.engine
  have queue : ((discardNight z s).updZone z Zone.enterStandby).closeQueue =
      s.closeQueue.filter fun e => decide (e ≠ .zone z) := by
    rw [← discarded.closeQueue]
    rfl
  have change : OneZone z s _ := .of_leaves (fun j other => by rw [zone, if_neg other]) queue engine discarded.test
  have here := (zone z).trans (if_pos rfl)
  refine ok.of_oneZone change fun was => (zoneInStep_of_none (congrArg Zone.night here)).mpr ⟨?_, ?_, ?_, ?_⟩
  · rw [queue]
    simp
  · rw [engine, was.service]
    refine Option.eq_none_iff_forall_ne_some.mpr fun nt closing => ?_
    exact free (nightState_eq_some.mpr ⟨nt, Zone.closingNight_eq_some.mp closing⟩)
  · rw [here]
    rfl
  · rw [here]
    refine Bool.eq_false_iff.mpr fun pending => ?_
    obtain ⟨nt, night, closing⟩ := was.life.2.2.2 pending
    exact free (nightState_eq_some.mpr ⟨nt, night, closing⟩)

/-- R89: a stop while the close is in service. -/
theorem CloseOk.stopLater (ok : CloseOk s) (closing : nightState s z = some .closing) :
    CloseOk (s.updZone z fun zn => { zn with stopPending := true }) := by
  obtain ⟨nt, night, state⟩ := nightState_eq_some.mp closing
  have here := State.zone_updZone_self s z fun zn => { zn with stopPending := true }
  have now := (congrArg Zone.night here).trans night
  refine ok.of_oneZone (.updZone s z _) fun was => (zoneInStep_of_some now).mpr ?_
  obtain ⟨queued, service, active, survey, cause, -, valid⟩ := (zoneInStep_of_some night).mp was
  rw [here]
  exact ⟨queued, service, active, survey, cause, fun _ => state, valid⟩

/-- R115: an armed zone becomes WATCH. -/
theorem CloseOk.rebase (ok : CloseOk s) (f : Int) (armed : (s.zone z).monitor.armed = true) :
    CloseOk (s.updZone z fun zn => zn.rebase f) := by
  have active : (s.zone z).monitor ≠ .standby ∧ (s.zone z).monitor ≠ .survey := by
    constructor <;> rintro h <;> simp [h, MonitorState.armed] at armed
  obtain ⟨nt, night⟩ := Option.ne_none_iff_exists'.mp (mt (ok.zone z).life.1.mpr active.1)
  have here := State.zone_updZone_self s z fun zn => zn.rebase f
  have now := (congrArg Zone.night here).trans night
  refine ok.of_oneZone (.updZone s z _) fun was => (zoneInStep_of_some now).mpr ?_
  obtain ⟨queued, service, -, survey, cause, stop, valid⟩ := (zoneInStep_of_some night).mp was
  rw [here]
  refine ⟨queued, service, MonitorState.noConfusion, ?_, cause, stop, valid⟩
  rw [survey]
  simp [Zone.rebase, active.2]

/-- R117: RESET_ZONE, whatever the zone's night. -/
theorem CloseOk.reset (ok : CloseOk s) : CloseOk ((dropNight z s).updZone z Zone.clearAll) := by
  have before := ok.zone z
  have queue : (dropNight z s).closeQueue = s.closeQueue.filter fun e => decide (e ≠ .zone z) :=
    dropNight_closeQueue before.queued.mp
  have dropped : OneZone z s (dropNight z s) := by
    refine ⟨fun j other => by rw [dropNight_zone, if_neg other], fun apart => queue ▸ apart.filter _,
      fun e other => by simp [queue, other], ?_, fun j other => ?_, dropNight_test z s⟩
    · rw [dropNight_engine]
      split
      · exact voidItem_testRun z s.engine
      · exact Iff.rfl
    · rw [dropNight_engine]
      split
      · rw [serviceNight_voidItem, if_neg other]
      · rfl
  have none : (((dropNight z s).updZone z Zone.clearAll).zone z).night = none := by
    rw [State.zone_updZone_self]
    rfl
  refine ok.of_oneZone (dropped.trans (.updZone _ z _)) fun _ => (zoneInStep_of_none none).mpr ⟨?_, ?_, ?_, ?_⟩
  · rw [State.updZone_closeQueue, queue]
    simp
  · rw [State.updZone_engine, dropNight_engine]
    split
    · rw [serviceNight_voidItem, if_pos rfl]
    · next free =>
      rw [before.service]
      refine Option.eq_none_iff_forall_ne_some.mpr fun nt closing => ?_
      exact free (nightState_eq_some.mpr ⟨nt, Zone.closingNight_eq_some.mp closing⟩)
  · rw [State.zone_updZone_self]
    rfl
  · rw [State.zone_updZone_self]
    rfl

/-! ### The engine (R75 to R79, R81, R164) -/

/-- R79, R80: the start of a close. -/
theorem CloseOk.startClose {nt : Night} (ok : CloseOk s) (ready : closeReady s = some (z, nt)) :
    CloseOk (startClose z nt s) := by
  obtain ⟨idle, rest, queue, night⟩ := closeReady_some ready
  obtain ⟨queued, service, active, survey, cause, stop, valid⟩ := (zoneInStep_of_some night).mp (ok.zone z)
  have waits : nt.state = .queued := queued.mp (by simp [queue])
  have apart := ok.testInStep.apart
  rw [queue, List.nodup_cons] at apart
  obtain ⟨fresh, apart⟩ := apart
  have tail : (Machine.startClose z nt s).closeQueue = rest := by simp [Machine.startClose, queue]
  have zone (j : Nat) : (Machine.startClose z nt s).zone j =
      if j = z then { s.zone z with night := some { nt with state := .closing } } else s.zone j :=
    State.zone_updZone s z j fun zn => { zn with night := some { nt with state := .closing } }
  have here := (zone z).trans (if_pos rfl)
  have now := congrArg Zone.night here
  refine ok.of_oneZone (z := z) ⟨fun j other => by rw [zone, if_neg other], fun _ => tail ▸ apart, fun e other => ?_, ?_,
    fun j other => ?_, rfl⟩ fun _ => (zoneInStep_of_some now).mpr ⟨?_, ?_, ?_, ?_, ?_, ?_, valid⟩
  · rw [tail, queue]
    simp [other]
  · simp [Machine.startClose, idle]
  · rw [idle]
    simp [Machine.startClose, serviceNight, Ne.symm other]
  · rw [tail]
    simp [fresh]
  · simp [Machine.startClose, serviceNight]
  · rwa [here]
  · rwa [here]
  · simpa [waits] using cause
  · exact fun _ => rfl

end

/-- A change of the test request, the engine and the queue that leaves the zones and their entries alone. -/
theorem CloseOk.of_test {s t : State} (ok : CloseOk s) (test : TestInStep t) (zones : t.zones = s.zones)
    (entries : ∀ z, .zone z ∈ t.closeQueue ↔ .zone z ∈ s.closeQueue)
    (service : ∀ z, serviceNight t.engine z = serviceNight s.engine z) : CloseOk t := by
  refine (closeOk_iff t).mpr ⟨test, fun z => ?_⟩
  have zone : t.zone z = s.zone z := by simp only [State.zone, zones]
  obtain ⟨queued, held, life, outside⟩ := ok.zone z
  refine ⟨?_, ?_, zone ▸ life, zone ▸ outside⟩
  · rw [entries, queued, nightState, nightState, zone]
  · rw [service, held, zone]

section
variable {s : State}

/-- R163: the test joins the queue. -/
theorem CloseOk.testQueued (ok : CloseOk s) (test : Nat) (idle : s.test.request = .idle) :
    CloseOk ({ s with test := { s.test with request := .queued test } }.enqueue .test) := by
  obtain ⟨apart, queued, running⟩ := ok.testInStep
  have fresh : .test ∉ s.closeQueue := by simp [queued, idle]
  refine ok.of_test ⟨?_, ?_, ?_⟩ rfl (fun z => by simp) fun _ => rfl
  · exact List.nodup_append.mpr ⟨apart, by simp, fun e he e' he' => by
      rw [List.mem_singleton.mp he']
      exact fun same => fresh (same ▸ he)⟩
  · simp [State.enqueue]
  · simpa [State.enqueue, idle] using running

/-- R169: the test leaves the queue. -/
theorem CloseOk.testCancelled (ok : CloseOk s) {test : Nat} (result : Option TestResult) (waits : s.test.request = .queued test) :
    CloseOk { s.dequeue .test with test := ⟨.idle, result⟩ } := by
  obtain ⟨apart, queued, running⟩ := ok.testInStep
  refine ok.of_test ⟨apart.filter _, ?_, ?_⟩ rfl (fun z => by simp) fun _ => rfl
  · simp
  · simpa [waits] using running

/-- R79, R164: the start of a test run. -/
theorem CloseOk.startTest (ok : CloseOk s) {test : Nat} (ready : testReady s = some test) : CloseOk (startTest test s) := by
  obtain ⟨idle, rest, queue, waits⟩ := testReady_some ready
  obtain ⟨apart, queued, running⟩ := ok.testInStep
  rw [queue, List.nodup_cons] at apart
  obtain ⟨fresh, apart⟩ := apart
  have tail : (Machine.startTest test s).closeQueue = rest := by simp [Machine.startTest, queue]
  refine ok.of_test ⟨tail ▸ apart, ?_, ?_⟩ rfl (fun z => by rw [tail, queue]; simp) fun z => by rw [idle]; rfl
  · rw [tail]
    simp [Machine.startTest, fresh]
  · simp [Machine.startTest]

/-- R88, R164: the completion of a test run. -/
theorem CloseOk.completeTest (ok : CloseOk s) {test : Nat} (inService : testInService s = some test) :
    CloseOk (completeTest test s) := by
  obtain ⟨engine, request⟩ := testInService_some inService
  obtain ⟨apart, queued, running⟩ := ok.testInStep
  refine ok.of_test ⟨apart, ?_, ?_⟩ rfl (fun z => Iff.rfl) fun z => by rw [engine]; rfl
  · simpa [Machine.completeTest, request] using queued
  · simp [Machine.completeTest]

/-- R84, R87: a zone whose close completes goes on with a fresh night, or goes to STANDBY. -/
theorem turnOver_cases {zn : Zone} {c : CloseItem} {v : Verdict} (life : zn.LifeOk) (night : zn.night = some c.night)
    (verdict : v.monitor = zn.monitor ∨ zn.monitor.monitored = true ∧ v.monitor.monitored = true) (f : Figures) (offset : Int)
    (now : Nat) :
    ((zn.closed c f v now).turnOver c offset now).stopPending = false ∧
      (((zn.closed c f v now).turnOver c offset now).night = none ∧
          ((zn.closed c f v now).turnOver c offset now).monitor = .standby ∨
        ∃ nt, ((zn.closed c f v now).turnOver c offset now).night = some nt ∧ nt.state = .pending ∧ nt.survey = false ∧
          nt.cause = none ∧ ((zn.closed c f v now).turnOver c offset now).monitor.monitored = true) := by
  obtain ⟨standby, survey, -, -⟩ := life
  have closed := Zone.closed_quiet zn c f v now
  have active : zn.monitor ≠ .standby := mt standby.mp (by simp [night])
  unfold Zone.turnOver
  cases stops : c.night.survey || zn.stopPending with
  | true =>
    rw [Zone.settle_stops stops] at closed
    have monitor : (zn.closed c f v now).monitor = .standby := closed.monitor
    have stop : (zn.closed c f v now).stopPending = false := closed.stopPending
    simp [monitor, stop, MonitorState.monitored]
  | false =>
    rw [Zone.settle_continues stops] at closed
    obtain ⟨notSurvey, noStop⟩ := Bool.or_eq_false_iff.mp stops
    have monitored : zn.monitor.monitored = true := by
      have other : zn.monitor ≠ .survey := mt (survey c.night night).mpr (by simp [notSurvey])
      cases h : zn.monitor <;> simp_all [MonitorState.monitored]
    have after : (zn.closed c f v now).monitor.monitored = true := by
      rw [closed.monitor]
      rcases verdict with same | ⟨-, monitored⟩
      · exact same ▸ monitored
      · exact monitored
    have stop : (zn.closed c f v now).stopPending = false := closed.stopPending.trans noStop
    dsimp only
    rw [if_pos after]
    exact ⟨stop, .inr ⟨_, rfl, rfl, rfl, rfl, after⟩⟩

/-- R81: the completion of a close. -/
theorem CloseOk.completeClose (ok : CloseOk s) {c : CloseItem} (inService : closeInService s = some c) :
    CloseOk (completeClose c s) := by
  have engine := closeInService_some.mp inService
  have beside := completeClose_frame c s
  obtain ⟨apart, queued, running⟩ := ok.testInStep
  cases void : c.void with
  | true =>
    have voided : Machine.completeClose c s = { s with engine := none } := by simp [Machine.completeClose, void]
    rw [voided]
    refine ok.of_test ⟨apart, queued, ?_⟩ rfl (fun _ => Iff.rfl) fun z => ?_
    · simpa [engine] using running
    · simp [engine, serviceNight, void]
  | false =>
    have night : (s.zone c.zone).night = some c.night := ok.2.1.2.2 c engine void
    have zone := completeClose_zone void s
    have queue : (Machine.completeClose c s).closeQueue = s.closeQueue := beside.closeQueue
    have none : (Machine.completeClose c s).engine = none := beside.engine
    have held : serviceNight s.engine c.zone = some c.night := by simp [engine, serviceNight, void]
    obtain ⟨entry, service, -, -, -, -, valid⟩ := (zoneInStep_of_some night).mp (ok.zone c.zone)
    have closing : c.night.state = .closing := by
      by_contra other
      simp [held, other] at service
    have fresh : .zone c.zone ∉ s.closeQueue := by simp [entry, closing]
    refine ok.of_oneZone (z := c.zone) ⟨fun j other => by rw [zone, if_neg other], fun _ => queue ▸ apart,
      fun e _ => by rw [queue], by simp [none, engine], fun j other => ?_, beside.test⟩ fun was => ?_
    · simp [none, engine, serviceNight, Ne.symm other]
    · have here := (zone c.zone).trans (if_pos rfl)
      obtain ⟨stop, ⟨gone, standby⟩ | ⟨nt, now, pending, survey, cause, monitored⟩⟩ :=
        turnOver_cases was.life night (closeVerdict_monitor c s) (figuresOf s c.zone c.night c.captured) s.settings.offset s.now
      · rw [← here] at gone standby stop
        exact (zoneInStep_of_none gone).mpr ⟨queue ▸ fresh, by rw [none]; rfl, standby, stop⟩
      · rw [← here] at now monitored stop
        have active : ((Machine.completeClose c s).zone c.zone).monitor ≠ .standby ∧
            ((Machine.completeClose c s).zone c.zone).monitor ≠ .survey := by
          constructor <;> intro h <;> simp [h, MonitorState.monitored] at monitored
        exact (zoneInStep_of_some now).mpr ⟨by simp [queue, fresh, pending], by simp [none, serviceNight, pending], active.1,
          by simp [survey, active.2], by simp [cause, pending], by simp [stop], valid⟩

end

/-! ### The resets (R55, R184) -/

/-- A zone without a night, in STANDBY, with no stop pending. -/
abbrev Zone.Idle (zn : Zone) : Prop := zn.night = none ∧ zn.monitor = .standby ∧ zn.stopPending = false

/-- With nothing queued, in service or asked for, and every zone idle, all agree. -/
theorem closeOk_of_idle {s : State} (queue : s.closeQueue = []) (engine : s.engine = none) (request : s.test.request = .idle)
    (zones : ∀ z, (s.zone z).Idle) : CloseOk s := by
  refine (closeOk_iff s).mpr ⟨⟨by simp [queue], by simp [queue, request], by simp [engine, request]⟩, fun z => ?_⟩
  obtain ⟨night, standby, stop⟩ := zones z
  exact (zoneInStep_of_none night).mpr ⟨by simp [queue], by simp [engine, serviceNight], standby, stop⟩

/-- R184: what the pin's assertion makes of a zone. -/
def Zone.abandoned (zn : Zone) : Zone := { ({ zn with night := none } : Zone).enterStandby with stopPending := false }

theorem mem_zoneNumbers {z : Nat} : z ∈ zoneNumbers ↔ ZoneValid z := by
  simp only [zoneNumbers, List.mem_range'_1, Config.zoneCount, ZoneValid]
  omega

theorem zoneNumbers_nodup : zoneNumbers.Nodup := List.nodup_range'

/-- Zones changed one after another, each by itself. -/
theorem foldl_eachZone {f : State → Nat → State} {g : Zone → Zone}
    (each : ∀ s z j, (f s z).zone j = if j = z then g (s.zone z) else s.zone j) {zs : List Nat} (apart : zs.Nodup) (s : State)
    (j : Nat) : (zs.foldl f s).zone j = if j ∈ zs then g (s.zone j) else s.zone j := by
  induction zs generalizing s with
  | nil => rfl
  | cons z rest ih =>
    obtain ⟨fresh, apart⟩ := List.nodup_cons.mp apart
    rw [List.foldl_cons, ih apart, each]
    by_cases here : j = z
    · subst here
      simp [fresh]
    · simp [here]

/-- R184: the zones as the pin's assertion leaves them. -/
def abandonNights (s : State) : State :=
  zoneNumbers.foldl (fun s z => (freeNight z s).updZone z fun zn => { zn.enterStandby with stopPending := false }) s

/-- R184: nothing queued, in service or asked for, under another link. -/
def State.halted (s : State) (l : Link) : State :=
  { s with engine := none, closeQueue := [], test := ⟨.idle, none⟩, link := l }

theorem State.halted_zone (s : State) (l : Link) (z : Nat) : (s.halted l).zone z = s.zone z := rfl

theorem abandonAll_eq (s : State) : ∃ l, abandonAll s = (recomputeAll (abandonNights s)).halted l := ⟨_, rfl⟩

theorem abandonNights_zone (s : State) (z : Nat) :
    (abandonNights s).zone z = if ZoneValid z then (s.zone z).abandoned else s.zone z := by
  have each (s : State) (z j : Nat) :
      ((freeNight z s).updZone z fun zn => { zn.enterStandby with stopPending := false }).zone j =
        if j = z then (s.zone z).abandoned else s.zone j := by
    rw [State.zone_updZone, freeNight_zone, freeNight_zone, if_pos rfl]
    by_cases here : j = z <;> simp [here, Zone.abandoned]
  rw [abandonNights, foldl_eachZone each zoneNumbers_nodup s z, if_congr mem_zoneNumbers rfl rfl]

theorem abandonAll_zone (s : State) (z : Nat) :
    (abandonAll s).zone z = if ZoneValid z then (s.zone z).abandoned else s.zone z := by
  obtain ⟨l, halted⟩ := abandonAll_eq s
  rw [halted, State.halted_zone, (recomputeAll_cases _).2.1, abandonNights_zone]

/-- R184: the reset pin's assertion. -/
theorem CloseOk.abandonAll {s : State} (ok : CloseOk s) : CloseOk (abandonAll s) := by
  obtain ⟨l, halted⟩ := abandonAll_eq s
  refine closeOk_of_idle (halted ▸ rfl) (halted ▸ rfl) (halted ▸ rfl) fun z => ?_
  rw [abandonAll_zone]
  split
  · exact ⟨rfl, rfl, rfl⟩
  · next outside =>
    have night := (ok.zone z).outside outside
    obtain ⟨-, -, standby, stop⟩ := (zoneInStep_of_none night).mp (ok.zone z)
    exact ⟨night, standby, stop⟩

theorem closeOk_fullReset (l : Link) (s : State) : CloseOk (fullReset l s) :=
  closeOk_of_idle rfl rfl rfl fun _ => ⟨rfl, rfl, rfl⟩

/-- What a listed zone reads after every listed zone is changed: a changed record, or that of an unlisted number. -/
theorem runtimeReset_zone_cases (l : Link) (s : State) (z : Nat) :
    (runtimeReset l s).zone z = Zone.reset ∨ ∃ zn, (runtimeReset l s).zone z = Zone.clearAll zn := by
  have read : (runtimeReset l s).zone z =
      (Table.find? (Table.mapListed Zone.reset Zone.runtimeReset s.zones) z).getD Zone.reset := rfl
  rw [read]
  cases found : Table.find? (Table.mapListed Zone.reset Zone.runtimeReset s.zones) z with
  | none => exact .inl rfl
  | some zn =>
    obtain ⟨e, -, same⟩ := List.mem_map.mp (List.mem_of_mem_filter (Table.mem_of_find? found))
    exact .inr ⟨e.2, (congrArg Prod.snd same).symm⟩

theorem closeOk_runtimeReset (l : Link) (s : State) : CloseOk (runtimeReset l s) := by
  refine closeOk_of_idle rfl rfl rfl fun z => ?_
  rcases runtimeReset_zone_cases l s z with reset | ⟨zn, cleared⟩
  · rw [reset]
    exact ⟨rfl, rfl, rfl⟩
  · rw [cleared]
    exact ⟨rfl, rfl, rfl⟩

/-! ### ZONE_SET (R44) -/

/-- R44: an entry touches the settings alone. -/
theorem Zone.takeEntry_frame (zn : Zone) (e : Nat × Int) :
    { zn.takeEntry e with geometry := zn.geometry, params := zn.params, staged := zn.staged } = zn := by
  unfold Zone.takeEntry
  split
  · rfl
  · split <;> rfl

theorem Zone.foldl_takeEntry_frame (es : List (Nat × Int)) (zn : Zone) :
    { es.foldl Zone.takeEntry zn with geometry := zn.geometry, params := zn.params, staged := zn.staged } = zn := by
  induction es generalizing zn with
  | nil => rfl
  | cons e rest ih =>
    have tail := congrArg (fun w : Zone => { w with geometry := zn.geometry, params := zn.params, staged := zn.staged })
      (ih (zn.takeEntry e))
    exact tail.trans (zn.takeEntry_frame e)

/-- R44, R127, R133: the settings, the hit list and the summary alone change. -/
theorem Zone.takeEntries_frame (zn : Zone) (es : List (Nat × Int)) :
    { zn.takeEntries es with geometry := zn.geometry, params := zn.params, staged := zn.staged, judge := zn.judge,
                             summary := zn.summary } = zn := by
  have written := congrArg (fun w : Zone => { w with judge := zn.judge, summary := zn.summary })
    (Zone.foldl_takeEntry_frame es zn)
  unfold Zone.takeEntries
  dsimp only
  split <;> split <;> exact written

/-! ### Steps -/

theorem CloseOk.zoneSet {s : State} (ok : CloseOk s) (z : Nat) (es : List (Nat × Int)) :
    CloseOk (s.updZone z fun zn => zn.takeEntries es) := by
  have frame := (s.zone z).takeEntries_frame es
  have monitor : ((s.zone z).takeEntries es).monitor = (s.zone z).monitor := (congrArg Zone.monitor frame :)
  have stop : ((s.zone z).takeEntries es).stopPending = (s.zone z).stopPending := (congrArg Zone.stopPending frame :)
  have night : ((s.zone z).takeEntries es).night = (s.zone z).night := (congrArg Zone.night frame :)
  refine ok.of_oneZone (.updZone s z _) fun ⟨queued, service, life, outside⟩ => ⟨?_, ?_, ?_, ?_⟩
  · rwa [nightState, State.zone_updZone_self, night]
  · rwa [State.zone_updZone_self, Zone.closingNight, night]
  · rw [State.zone_updZone_self]
    simpa only [Zone.LifeOk, monitor, stop, night] using life
  · rwa [State.zone_updZone_self, night]

/-- R45, R75, R76, R107: every move keeps the queue, the engine and the nights in step. -/
theorem NightMoves.closeOk {s t : State} (h : NightMoves s t) (ok : CloseOk s) : CloseOk t := by
  induction h with
  | quiet h => exact h.closeOk ok
  | trans _ _ ih₁ ih₂ => exact ih₂ (ih₁ ok)
  | partSet =>
    obtain ⟨apart, queued, running⟩ := ok.testInStep
    exact ok.of_test ⟨apart, queued, running⟩ rfl (fun _ => Iff.rfl) fun _ => rfl
  | zoneSet r => exact ok.zoneSet r.zone r.entries
  | queues z cause waits => exact ok.queueNight cause waits
  | begins z survey monitor judge valid idle active surveys => exact ok.begin judge valid idle active surveys
  | stops z valid free => exact ok.stop free
  | stopsLater z closing => exact ok.stopLater closing
  | rebases z f armed => exact ok.rebase f armed
  | resets z valid => exact ok.reset
  | closeStarts z nt ready => exact ok.startClose ready
  | testStarts test ready => exact ok.startTest ready
  | closes c inService => exact ok.completeClose inService
  | testEnds test inService => exact ok.completeTest inService
  | testQueued test idle => exact ok.testQueued test idle
  | testCancelled test result queued => exact ok.testCancelled result queued
  | abandons => exact ok.abandonAll

theorem exec_keeps_close {c : Instr} {s t : State} (ok : CloseOk s) (e : exec c s = .next t) : CloseOk t := by
  rcases exec_moves e with moves | ⟨l, rfl | rfl⟩
  · exact moves.closeOk ok
  · exact closeOk_fullReset l s
  · exact closeOk_runtimeReset l s

/-- Settles O51: every command is a run of moves, or a reset, and each keeps the agreement. -/
theorem closeAndQueueStayConsistent : Obligations.CloseAndQueueStayConsistent := by
  unfold Obligations.CloseAndQueueStayConsistent
  exact fun s t ok e => step_keeps (P := CloseOk) (fun _ _ h => h) (fun _ _ _ => exec_keeps_close) ok e

end Sys2Proof.Machine
end

section
/-! SUPPORT. R42 to R44, R127: a zone's settings by identifier, what an entry of a ZONE_SET writes, and the checks of a message. -/

namespace Sys2Proof.Machine

/-! ### Entries in range -/

theorem CauseSet.code_ofCode {n : Nat} (h : n < 32) : (CauseSet.ofCode n).code = n := by
  interval_cases n <;> rfl

theorem LeakNotify.code_ofCode {n : Nat} (h : n < 4) : (LeakNotify.ofCode n).code = n := by
  interval_cases n <;> rfl

theorem boolOf_toNat {v : Int} (low : 0 ≤ v) (high : v ≤ 1) : ((boolOf v).toNat : Int) = v := by
  interval_cases v <;> rfl

theorem zoneEntryOk_range {id : Nat} {lo hi v : Int} (range : settingRange id = some (lo, hi)) (least : 1 ≤ id)
    (greatest : id ≤ 20) : ZoneEntryOk (id, v) ↔ lo ≤ v ∧ v ≤ hi := by
  simp [ZoneEntryOk, range, least, greatest]

theorem settingInRange_iff (e : Nat × Int) : settingInRange e.1 e.2 = true ↔ ZoneEntryOk e := by
  obtain ⟨id, v⟩ := e
  by_cases named : 1 ≤ id ∧ id ≤ 20
  · obtain ⟨least, greatest⟩ := named
    interval_cases id <;> rw [zoneEntryOk_range rfl least greatest] <;> simp [settingInRange]
  · have unnamed : settingInRange id v = false := by
      unfold settingInRange
      split <;> simp_all
    rw [unnamed]
    exact ⟨fun h => (nomatch h), fun h => absurd ⟨h.1, h.2.1⟩ named⟩

theorem zoneEntryOk_nonneg {e : Nat × Int} (ok : ZoneEntryOk e) : 0 ≤ e.2 := by
  obtain ⟨id, v⟩ := e
  obtain ⟨least, greatest, ⟨lo, hi⟩, range, low, -⟩ := ok
  have : 0 ≤ lo := by
    dsimp only at least greatest range
    interval_cases id <;> cases range <;> decide
  exact this.trans low

/-! ### One setting written -/

section
variable (zn : Zone) {id id' : Nat} {v : Int}

/-! A write beside the setting that is read: the arm of the same identifier contradicts `other`, every other arm leaves it. -/

theorem Zone.setting_writeParams_ne (other : id ≠ id') :
    ({ zn with params := zn.params.write id' v } : Zone).setting id = zn.setting id := by
  unfold Params.write
  split <;> unfold Zone.setting <;> split <;> first | rfl | exact absurd rfl other

theorem Zone.setting_writeGeometry_ne (other : id ≠ id') :
    ({ zn with geometry := zn.geometry.write id' v } : Zone).setting id = zn.setting id := by
  unfold Geometry.write
  split <;> unfold Zone.setting <;> split <;> first | rfl | exact absurd rfl other

theorem Zone.pendingCopy_write_ne (other : id ≠ id') :
    ({ zn with staged := zn.staged.write id' v } : Zone).pendingCopy id = zn.pendingCopy id := by
  unfold Staged.write
  split <;> unfold Zone.pendingCopy <;> split <;> first | rfl | exact absurd rfl other

theorem Zone.setting_writeParams (own : 5 < id) (ok : ZoneEntryOk (id, v)) :
    ({ zn with params := zn.params.write id v } : Zone).setting id = v := by
  have nonneg : 0 ≤ v := zoneEntryOk_nonneg ok
  by_cases number : id ≤ 14
  · interval_cases id <;> exact Int.toNat_of_nonneg nonneg
  · have coded {hi : Int} (range : settingRange id = some (0, hi)) : v ≤ hi :=
      ((zoneEntryOk_range range ok.1 ok.2.1).mp ok).2
    have named : id = 15 ∨ id = 16 ∨ id = 17 ∨ id = 18 ∨ id = 19 ∨ id = 20 := by
      have := ok.2.1
      omega
    rcases named with rfl | rfl | rfl | rfl | rfl | rfl
    · have high : v ≤ 31 := coded rfl
      exact (congrArg Int.ofNat (CauseSet.code_ofCode (by omega))).trans (Int.toNat_of_nonneg nonneg)
    · exact boolOf_toNat nonneg (coded rfl)
    · exact boolOf_toNat nonneg (coded rfl)
    · exact boolOf_toNat nonneg (coded rfl)
    · have high : v ≤ 3 := coded rfl
      exact (congrArg Int.ofNat (LeakNotify.code_ofCode (by omega))).trans (Int.toNat_of_nonneg nonneg)
    · exact boolOf_toNat nonneg (coded rfl)

theorem Zone.setting_writeGeometry (geometry : id ≤ 5) (ok : ZoneEntryOk (id, v)) :
    ({ zn with geometry := zn.geometry.write id v } : Zone).setting id = v := by
  have least := ok.1
  dsimp only at least
  interval_cases id <;> exact Int.toNat_of_nonneg (zoneEntryOk_nonneg ok)

theorem Zone.pendingCopy_write (least : 1 ≤ id) (geometry : id ≤ 5) :
    ({ zn with staged := zn.staged.write id v } : Zone).pendingCopy id = some v.toNat := by
  interval_cases id <;> rfl

/-! ### One entry taken (R44) -/

theorem Zone.pendingCopy_of_lt (own : 5 < id) : zn.pendingCopy id = none := by
  obtain ⟨k, rfl⟩ := Nat.exists_eq_add_of_le' own
  rfl

/-- R44: what an entry writes at once. -/
theorem Zone.setting_takeEntry {e : Nat × Int} (ok : ZoneEntryOk e) (id : Nat) :
    (zn.takeEntry e).setting id =
      if id = e.1 ∧ (5 < id ∨ zn.monitor = .standby) then e.2 else zn.setting id := by
  obtain ⟨id', v⟩ := e
  unfold Zone.takeEntry
  dsimp only
  by_cases here : id = id'
  · subst here
    split
    · next own => rw [if_pos ⟨rfl, .inl own⟩, zn.setting_writeParams own ok]
    · next geometry =>
      split
      · next standby => rw [if_pos ⟨rfl, .inr standby⟩, zn.setting_writeGeometry (by omega) ok]
      · next active =>
        rw [if_neg (by simp [geometry, active])]
        rfl
  · rw [if_neg (c := id = id' ∧ _) fun h => here h.1]
    split
    · exact zn.setting_writeParams_ne here
    · split
      · exact zn.setting_writeGeometry_ne here
      · rfl

/-- R44: what an entry stages. -/
theorem Zone.pendingCopy_takeEntry {e : Nat × Int} (ok : ZoneEntryOk e) (id : Nat) :
    (zn.takeEntry e).pendingCopy id =
      if id = e.1 ∧ ¬ (5 < id ∨ zn.monitor = .standby) then some e.2.toNat else zn.pendingCopy id := by
  obtain ⟨id', v⟩ := e
  unfold Zone.takeEntry
  dsimp only
  split
  · next own =>
    rw [if_neg (by omega)]
    rfl
  · next geometry =>
    split
    · next standby =>
      rw [if_neg (by simp [standby])]
      rfl
    · next active =>
      by_cases here : id = id'
      · subst here
        rw [if_pos ⟨rfl, by simp [geometry, active]⟩]
        exact zn.pendingCopy_write ok.1 (by omega)
      · rw [if_neg (by simp [here])]
        exact zn.pendingCopy_write_ne here

theorem Zone.takeEntry_monitor (e : Nat × Int) : (zn.takeEntry e).monitor = zn.monitor :=
  (congrArg Zone.monitor (zn.takeEntry_frame e) :)

end

/-! ### The entries of a message taken -/

theorem lookup_eq_none_iff_notMem (es : List (Nat × Int)) (id : Nat) : es.lookup id = none ↔ id ∉ es.map (·.1) := by
  simp only [List.lookup_eq_none_iff, List.mem_map, bne_iff_ne, not_exists, not_and]
  exact ⟨fun h e he same => h e he same.symm, fun h e he same => h e he same.symm⟩

theorem lookup_cons_entry (e : Nat × Int) (rest : List (Nat × Int)) (id : Nat) :
    (e :: rest).lookup id = if id = e.1 then some e.2 else rest.lookup id := by
  rw [List.lookup_cons]
  by_cases here : id = e.1
  · simp [here]
  · rw [if_neg here, beq_false_of_ne here]

/-- R44: what the entries of a message write at once. -/
theorem Zone.setting_foldl_takeEntry {es : List (Nat × Int)} (apart : (es.map (·.1)).Nodup) (ok : ∀ e ∈ es, ZoneEntryOk e)
    (zn : Zone) (id : Nat) :
    (es.foldl Zone.takeEntry zn).setting id =
      if 5 < id ∨ zn.monitor = .standby then (es.lookup id).getD (zn.setting id) else zn.setting id := by
  induction es generalizing zn with
  | nil => simp
  | cons e rest ih =>
    obtain ⟨fresh, apart⟩ := List.nodup_cons.mp apart
    obtain ⟨entryOk, ok⟩ := List.forall_mem_cons.mp ok
    rw [List.foldl_cons, ih apart ok, zn.setting_takeEntry entryOk, zn.takeEntry_monitor, lookup_cons_entry]
    by_cases here : id = e.1
    · subst here
      by_cases atOnce : 5 < e.1 ∨ zn.monitor = .standby <;> simp [atOnce, (lookup_eq_none_iff_notMem rest e.1).mpr fresh]
    · simp [here]

/-- R44: what the entries of a message stage. -/
theorem Zone.pendingCopy_foldl_takeEntry {es : List (Nat × Int)} (apart : (es.map (·.1)).Nodup)
    (ok : ∀ e ∈ es, ZoneEntryOk e) (zn : Zone) (id : Nat) :
    (es.foldl Zone.takeEntry zn).pendingCopy id =
      if 5 < id ∨ zn.monitor = .standby then zn.pendingCopy id
      else ((es.lookup id).map Int.toNat).or (zn.pendingCopy id) := by
  induction es generalizing zn with
  | nil => simp
  | cons e rest ih =>
    obtain ⟨fresh, apart⟩ := List.nodup_cons.mp apart
    obtain ⟨entryOk, ok⟩ := List.forall_mem_cons.mp ok
    rw [List.foldl_cons, ih apart ok, zn.pendingCopy_takeEntry entryOk, zn.takeEntry_monitor, lookup_cons_entry]
    by_cases here : id = e.1
    · subst here
      by_cases atOnce : 5 < e.1 ∨ zn.monitor = .standby <;> simp [atOnce, (lookup_eq_none_iff_notMem rest e.1).mpr fresh]
    · simp [here]

/-- R44, R127, R133: the settings as the entries write them, the hit list shortened where W is lowered, and the summary formed
again where the message carries the route mask. -/
theorem Zone.takeEntries_eq (zn : Zone) (es : List (Nat × Int)) :
    zn.takeEntries es = { es.foldl Zone.takeEntry zn with
      judge := { zn.judge with
        hitList :=
          if (es.foldl Zone.takeEntry zn).params.confirmWindow < zn.params.confirmWindow then
            zn.judge.hitList.drop (zn.judge.hitList.length - (es.foldl Zone.takeEntry zn).params.confirmWindow)
          else zn.judge.hitList }
      summary :=
        if (carried es 15).isSome then summaryOf (es.foldl Zone.takeEntry zn).params.routeMask zn.held else zn.summary } := by
  have frame := zn.foldl_takeEntry_frame es
  have judge : (es.foldl Zone.takeEntry zn).judge = zn.judge := (congrArg Zone.judge frame :)
  have held : (es.foldl Zone.takeEntry zn).held = zn.held := (congrArg Zone.held frame :)
  have summary : (es.foldl Zone.takeEntry zn).summary = zn.summary := (congrArg Zone.summary frame :)
  unfold Zone.takeEntries
  dsimp only
  generalize es.foldl Zone.takeEntry zn = written at *
  rw [← judge, ← held, ← summary]
  split <;> split <;> rfl

/-! ### The settings of the zone's next night (R43 step 3) -/

/-- R43 step 3: the setting that the zone would next create a night with, were there no message. -/
def Zone.upcoming (zn : Zone) (id : Nat) : Int := (zn.pendingCopy id).elim (zn.setting id) Int.ofNat

/-- R43 step 3: the setting that a message forms. -/
def Zone.formed (zn : Zone) (es : List (Nat × Int)) (id : Nat) : Int := (es.lookup id).getD (zn.upcoming id)

theorem Zone.upcoming_of_lt (zn : Zone) {id : Nat} (own : 5 < id) : zn.upcoming id = zn.setting id := by
  rw [Zone.upcoming, zn.pendingCopy_of_lt own]
  rfl

theorem Zone.setting_applyStaged (zn : Zone) (id : Nat) : zn.applyStaged.setting id = zn.upcoming id := by
  have copy (o : Option Nat) (v : Nat) : ((o.getD v : Nat) : Int) = o.elim (v : Int) Int.ofNat := by cases o <;> rfl
  by_cases geometry : id ≤ 5
  · interval_cases id
    · rfl
    all_goals exact copy _ _
  · rw [zn.upcoming_of_lt (by omega)]
    by_cases named : id ≤ 20
    · interval_cases id <;> rfl
    · obtain ⟨k, rfl⟩ := Nat.exists_eq_add_of_le' (Nat.not_le.mp named)
      rfl

/-! ### The checks of a message (R43, R127) -/

/-- R43 step 2: an entry that passes, after the entries before it. -/
theorem entriesFault_cons {earlier : List Nat} {i : Nat} {e : Nat × Int} (rest : List (Nat × Int)) (ok : ZoneEntryOk e)
    (fresh : e.1 ∉ earlier) : entriesFault earlier i (e :: rest) = entriesFault (e.1 :: earlier) (i + 1) rest := by
  have inRange := (settingInRange_iff e).mpr ok
  obtain ⟨id, v⟩ := e
  obtain ⟨least, greatest, -⟩ := ok
  dsimp only at least greatest inRange fresh
  simp [entriesFault, least, greatest, inRange, fresh]

/-- R43 step 2: an identifier that names no setting or repeats. -/
theorem entriesFault_identifier {earlier : List Nat} {e : Nat × Int} (bad : e.1 < 1 ∨ 20 < e.1 ∨ e.1 ∈ earlier) (i : Nat)
    (rest : List (Nat × Int)) : entriesFault earlier i (e :: rest) = some (2 * i + 1) := by
  obtain ⟨id, v⟩ := e
  unfold entriesFault
  rw [if_pos]
  dsimp only at bad
  rcases bad with low | high | repeats
  · simp [Nat.lt_one_iff.mp low]
  · simp [high]
  · simp [repeats]

/-- R43 step 2: a value out of its setting's range. -/
theorem entriesFault_value {earlier : List Nat} {e : Nat × Int} (least : 1 ≤ e.1) (greatest : e.1 ≤ 20)
    (fresh : e.1 ∉ earlier) (bad : ¬ ZoneEntryOk e) (i : Nat) (rest : List (Nat × Int)) :
    entriesFault earlier i (e :: rest) = some (2 * i + 2) := by
  have outOfRange := mt (settingInRange_iff e).mp bad
  obtain ⟨id, v⟩ := e
  dsimp only at least greatest fresh outOfRange
  simp [entriesFault, least, greatest, fresh, outOfRange]

/-- R43 step 2: the entries pass exactly when each is in range and no identifier repeats. -/
theorem entriesFault_eq_none {earlier : List Nat} {i : Nat} {es : List (Nat × Int)} :
    entriesFault earlier i es = none ↔
      (es.map (·.1)).Nodup ∧ (∀ e ∈ es, ZoneEntryOk e) ∧ ∀ e ∈ es, e.1 ∉ earlier := by
  induction es generalizing earlier i with
  | nil => simp [entriesFault]
  | cons e rest ih =>
    by_cases named : e.1 < 1 ∨ 20 < e.1 ∨ e.1 ∈ earlier
    · rw [entriesFault_identifier named]
      refine iff_of_false (by simp) fun ⟨_, oks, away⟩ => ?_
      have ok := oks e (by simp)
      rcases named with low | high | repeats
      · exact absurd ok.1 (by omega)
      · exact absurd ok.2.1 (by omega)
      · exact away e (by simp) repeats
    · obtain ⟨least, greatest, fresh⟩ := not_or.mp named |>.imp_right not_or.mp
      by_cases ok : ZoneEntryOk e
      · rw [entriesFault_cons rest ok fresh, ih, List.map_cons, List.nodup_cons, List.forall_mem_cons, List.forall_mem_cons]
        simp only [List.mem_map, List.mem_cons, not_or, not_exists, not_and]
        constructor
        · rintro ⟨apart, oks, away⟩
          exact ⟨⟨fun e' he' => (away e' he').1, apart⟩, ⟨ok, oks⟩, fresh, fun e' he' => (away e' he').2⟩
        · rintro ⟨⟨apart', apart⟩, ⟨-, oks⟩, -, away⟩
          exact ⟨apart, oks, fun e' he' => ⟨apart' e' he', away e' he'⟩⟩
      · rw [entriesFault_value (by omega) (by omega) fresh ok]
        exact iff_of_false (by simp) fun ⟨_, oks, _⟩ => ok (oks e (by simp))

/-- R43 step 2: the first failing entry, after entries that pass. -/
theorem entriesFault_append {good : List (Nat × Int)} (apart : (good.map (·.1)).Nodup) (ok : ∀ e ∈ good, ZoneEntryOk e)
    {earlier : List Nat} (away : ∀ e ∈ good, e.1 ∉ earlier) (i : Nat) (rest : List (Nat × Int)) :
    entriesFault earlier i (good ++ rest) = entriesFault ((good.map (·.1)).reverse ++ earlier) (i + good.length) rest := by
  induction good generalizing earlier i with
  | nil => rfl
  | cons e good ih =>
    obtain ⟨fresh, apart⟩ := List.nodup_cons.mp apart
    obtain ⟨entryOk, ok⟩ := List.forall_mem_cons.mp ok
    obtain ⟨awayHere, away⟩ := List.forall_mem_cons.mp away
    rw [List.cons_append, entriesFault_cons _ entryOk awayHere, ih apart ok fun e' he' => ?_]
    · simp [Nat.add_assoc, Nat.add_comm 1]
    · simp only [List.mem_cons, not_or]
      exact ⟨fun same => fresh (List.mem_map.mpr ⟨e', he', same⟩), away e' he'⟩

theorem carried_eq (es : List (Nat × Int)) (id : Nat) : carried es id = (es.lookup id).map Int.toNat := by
  induction es with
  | nil => rfl
  | cons e rest ih =>
    rw [lookup_cons_entry, carried, List.find?_cons]
    by_cases here : id = e.1
    · simp [here]
    · simp only [Ne.symm here, here, decide_false, if_false]
      exact ih

theorem lookup_ok {es : List (Nat × Int)} (ok : ∀ e ∈ es, ZoneEntryOk e) {id : Nat} {v : Int} (h : es.lookup id = some v) :
    ZoneEntryOk (id, v) := by
  induction es with
  | nil => cases h
  | cons e rest ih =>
    obtain ⟨entryOk, ok⟩ := List.forall_mem_cons.mp ok
    rw [lookup_cons_entry] at h
    split at h
    · next here =>
      cases h
      exact here ▸ entryOk
    · exact ih ok h

/-- R43, R127: a value as the checks form it, and as the settings carry it. -/
theorem carried_getD {es : List (Nat × Int)} (ok : ∀ e ∈ es, ZoneEntryOk e) (id d : Nat) :
    (((carried es id).getD d : Nat) : Int) = (es.lookup id).getD (d : Int) := by
  rw [carried_eq]
  cases found : es.lookup id with
  | none => rfl
  | some v => exact Int.toNat_of_nonneg (zoneEntryOk_nonneg (lookup_ok ok found))

theorem getD_elim (o : Option Nat) (d : Nat) : ((o.getD d : Nat) : Int) = o.elim (d : Int) Int.ofNat := by
  cases o <;> rfl

theorem geometryClash_iff {es : List (Nat × Int)} (ok : ∀ e ∈ es, ZoneEntryOk e) (zn : Zone) :
    geometryClash zn es = true ↔ zn.formed es 2 - zn.formed es 4 < zn.formed es 5 := by
  have value (id : Nat) (staged : Option Nat) (setting : Nat) :
      ((formed es id staged setting : Nat) : Int) = (es.lookup id).getD (staged.elim (setting : Int) Int.ofNat) := by
    rw [formed, carried_getD ok, getD_elim]
  have length : _ = zn.formed es 2 := value 2 zn.staged.length zn.geometry.length
  have span : _ = zn.formed es 4 := value 4 zn.staged.span zn.geometry.span
  have missLimit : _ = zn.formed es 5 := value 5 zn.staged.missLimit zn.geometry.missLimit
  rw [← length, ← span, ← missLimit, geometryClash, decide_eq_true_eq]
  omega

theorem formedWindow_eq {es : List (Nat × Int)} (ok : ∀ e ∈ es, ZoneEntryOk e) (zn : Zone) :
    (formedWindow zn es : Int) = zn.formed es 12 := carried_getD ok 12 _

theorem formedClear_eq {es : List (Nat × Int)} (ok : ∀ e ∈ es, ZoneEntryOk e) (zn : Zone) :
    (formedClear zn es : Int) = zn.formed es 13 := carried_getD ok 13 _

/-- R43 step 3: a cross-check names the value field of the first entry that carries one of its settings. -/
theorem valueFieldOf_append {before : List (Nat × Int)} {ids : List Nat} (none : ∀ b ∈ before, b.1 ∉ ids) {e : Nat × Int}
    (carries : e.1 ∈ ids) (rest : List (Nat × Int)) :
    valueFieldOf (before ++ e :: rest) ids = some (2 * (before.length + 1) + 2) := by
  have skip : before.findIdx? (fun b => decide (b.1 ∈ ids)) = Option.none := by
    simpa [List.findIdx?_eq_none_iff] using none
  simp [valueFieldOf, List.findIdx?_append, skip, List.findIdx?_cons, carries]

/-- A message that carries none of some settings forms none of them. -/
theorem formed_of_valueFieldOf {es : List (Nat × Int)} {ids : List Nat} (none : valueFieldOf es ids = none) (zn : Zone)
    {id : Nat} (mem : id ∈ ids) : zn.formed es id = zn.upcoming id := by
  have away : ∀ e ∈ es, e.1 ∉ ids := by simpa [valueFieldOf, List.findIdx?_eq_none_iff] using none
  have absent : es.lookup id = Option.none := (lookup_eq_none_iff_notMem es id).mpr fun carries => by
    obtain ⟨e, he, rfl⟩ := List.mem_map.mp carries
    exact away e he mem
  rw [Zone.formed, absent]
  rfl

end Sys2Proof.Machine
end

section
/-! SUPPORT. R42 to R44, R48, R80, R181: the settings, the nights' geometries and the captured settings stay in their ranges. -/

namespace Sys2Proof.Machine

/-! ### The ranges, by identifier -/

theorem geometryOk_iff (zn : Zone) :
    zn.geometry.Ok ↔
      (∀ id, 1 ≤ id → id ≤ 5 → ZoneEntryOk (id, zn.setting id)) ∧ zn.setting 5 ≤ zn.setting 2 - zn.setting 4 := by
  constructor
  · rintro ⟨start, least, greatest, short, long, narrow, wide, miss⟩
    refine ⟨fun id low high => ?_, by simp only [Zone.setting]; omega⟩
    interval_cases id <;> rw [zoneEntryOk_range rfl (by decide) (by decide)] <;> simp only [Zone.setting] <;> omega
  · rintro ⟨inRange, miss⟩
    have one := (zoneEntryOk_range rfl (by decide) (by decide)).mp (inRange 1 (by decide) (by decide))
    have two := (zoneEntryOk_range rfl (by decide) (by decide)).mp (inRange 2 (by decide) (by decide))
    have three := (zoneEntryOk_range rfl (by decide) (by decide)).mp (inRange 3 (by decide) (by decide))
    have four := (zoneEntryOk_range rfl (by decide) (by decide)).mp (inRange 4 (by decide) (by decide))
    simp only [Zone.setting] at one two three four miss
    simp only [Geometry.Ok]
    omega

theorem paramsOk_iff (zn : Zone) :
    zn.params.Ok ↔ (∀ id, 6 ≤ id → id ≤ 14 → ZoneEntryOk (id, zn.setting id)) ∧ zn.setting 13 ≤ zn.setting 12 := by
  constructor
  · intro ok
    simp only [Params.Ok] at ok
    refine ⟨fun id low high => ?_, by simp only [Zone.setting]; omega⟩
    interval_cases id <;> rw [zoneEntryOk_range rfl (by decide) (by decide)] <;> simp only [Zone.setting] <;> omega
  · rintro ⟨inRange, run⟩
    have range (id : Nat) {lo hi : Int} (range : settingRange id = some (lo, hi)) (low : 6 ≤ id) (high : id ≤ 14) :
        lo ≤ zn.setting id ∧ zn.setting id ≤ hi :=
      (zoneEntryOk_range range (by omega) (by omega)).mp (inRange id low high)
    have allowance := range 6 rfl (by decide) (by decide)
    have negTolerance := range 7 rfl (by decide) (by decide)
    have learnNights := range 8 rfl (by decide) (by decide)
    have weightShift := range 9 rfl (by decide) (by decide)
    have absThreshold := range 10 rfl (by decide) (by decide)
    have relEighths := range 11 rfl (by decide) (by decide)
    have confirmWindow := range 12 rfl (by decide) (by decide)
    have clearRun := range 13 rfl (by decide) (by decide)
    have darkLimit := range 14 rfl (by decide) (by decide)
    simp only [Zone.setting] at *
    simp only [Params.Ok]
    omega

theorem applied_geometryOk_iff (zn : Zone) :
    zn.applyStaged.geometry.Ok ↔
      (∀ id, 1 ≤ id → id ≤ 5 → ZoneEntryOk (id, zn.upcoming id)) ∧ zn.upcoming 5 ≤ zn.upcoming 2 - zn.upcoming 4 := by
  rw [geometryOk_iff]
  simp only [Zone.setting_applyStaged]

/-! ### A zone in range -/

/-- A zone whose settings, pending copies and night's geometry are in range. -/
structure Zone.RangesOk (zn : Zone) : Prop where
  settings : zn.SettingsOk
  night : ∀ nt ∈ zn.night, nt.Ok

/-- What a close in service captured is in range. -/
def ItemOk (engine : Option Item) : Prop := ∀ c, engine = some (.close c) → c.captured.Ok ∧ c.night.Ok

theorem settingsOk_iff (s : State) :
    SettingsOk s ↔ s.settings.Ok ∧ (∀ z, (s.zone z).RangesOk) ∧ ItemOk s.engine := by
  constructor
  · rintro ⟨part, zones, nights, item⟩
    exact ⟨part, fun z => ⟨zones z, nights z⟩, item⟩
  · rintro ⟨part, zones, item⟩
    exact ⟨part, fun z => (zones z).settings, fun z => (zones z).night, item⟩

theorem itemOk_none : ItemOk none := fun _ h => nomatch h

theorem itemOk_testRun : ItemOk (some .testRun) := fun _ h => nomatch h

theorem ItemOk.voidItem {engine : Option Item} (ok : ItemOk engine) (z : Nat) : ItemOk (voidItem z engine) := by
  rcases engine with - | (c | -)
  · exact ok
  · intro c' same
    cases same
    have kept := ok c rfl
    split <;> exact kept
  · exact itemOk_testRun

namespace Zone

variable {zn zn' : Zone}

/-- Settings and pending copies as they are, and no entry into STANDBY. -/
theorem SettingsOk.of_eq (ok : zn.SettingsOk) (geometry : zn'.geometry = zn.geometry) (params : zn'.params = zn.params)
    (staged : zn'.staged = zn.staged) (monitor : zn'.monitor = .standby → zn.monitor = .standby) : zn'.SettingsOk := by
  obtain ⟨now, next, own, idle⟩ := ok
  have applied : zn'.applyStaged.geometry = zn.applyStaged.geometry := by simp only [Zone.applyStaged, geometry, staged]
  exact ⟨geometry ▸ now, applied ▸ next, params ▸ own, fun standby => staged.trans (idle (monitor standby))⟩

/-- R44: pending copies applied. -/
theorem SettingsOk.of_applied (ok : zn.SettingsOk) (geometry : zn'.geometry = zn.applyStaged.geometry)
    (params : zn'.params = zn.params) (staged : zn'.staged = Staged.none) : zn'.SettingsOk := by
  obtain ⟨-, next, own, -⟩ := ok
  have applied : zn'.applyStaged.geometry = zn'.geometry := by simp only [Zone.applyStaged, staged]; rfl
  exact ⟨geometry ▸ next, applied ▸ geometry ▸ next, params ▸ own, fun _ => staged⟩

theorem SettingsOk.quiet (ok : zn.SettingsOk) (h : zn.Quiet zn') : zn'.SettingsOk :=
  ok.of_eq h.geometry h.params h.staged fun standby => h.monitor.symm.trans standby

/-! ### What becomes of a zone -/

theorem RangesOk.of_night_eq (ok : zn.RangesOk) (settings : zn'.SettingsOk) (night : zn'.night = zn.night) : zn'.RangesOk :=
  ⟨settings, night ▸ ok.night⟩

theorem SettingsOk.withoutNight (settings : zn.SettingsOk) (night : zn.night = none) : zn.RangesOk :=
  ⟨settings, by simp [night]⟩

/-- R55, R117: the zone cleared. -/
theorem SettingsOk.clearAll (ok : zn.SettingsOk) : zn.clearAll.RangesOk :=
  SettingsOk.withoutNight (ok.of_applied rfl rfl rfl) rfl

/-- R48: a night created from a geometry in range. -/
theorem SettingsOk.withNewNight (ok : zn.SettingsOk) (offset : Int) (now : Nat) (survey : Bool) :
    (zn.withNewNight offset now survey).RangesOk := by
  refine ⟨ok.of_applied rfl rfl rfl, ?_⟩
  obtain ⟨-, ⟨-, least, greatest, short, long, narrow, wide, miss⟩, -, -⟩ := ok
  rintro nt ⟨⟩
  exact ⟨least, greatest, narrow, wide, miss, short, long, rfl, rfl, List.length_replicate⟩

/-- R84, R87: the settings of a zone whose close completes. -/
theorem SettingsOk.closed (ok : zn.SettingsOk) {c : CloseItem} {v : Verdict}
    (verdict : v.monitor = zn.monitor ∨ zn.monitor.monitored = true ∧ v.monitor.monitored = true) (f : Figures) (offset : Int)
    (now : Nat) : ((zn.closed c f v now).turnOver c offset now).RangesOk := by
  have settled : (zn.settle v c.night.survey).SettingsOk := by
    cases stops : c.night.survey || zn.stopPending with
    | true =>
      rw [settle_stops stops]
      exact ok.of_applied rfl rfl rfl
    | false =>
      rw [settle_continues stops]
      refine ok.of_eq rfl rfl rfl fun standby => ?_
      rcases verdict with same | ⟨-, monitored⟩
      · exact same.symm.trans standby
      · rw [show v.monitor = .standby from standby] at monitored
        cases monitored
  have closed := settled.quiet (closed_quiet zn c f v now)
  unfold turnOver
  dsimp only
  split
  · exact (closed.of_eq rfl rfl rfl id : SettingsOk { zn.closed c f v now with
      night := none, lastClosed := some ⟨c.night.ws, c.night.we⟩ }).withNewNight offset now false
  · exact (closed.of_eq rfl rfl rfl id : SettingsOk { zn.closed c f v now with
      night := none, lastClosed := some ⟨c.night.ws, c.night.we⟩ }).withoutNight rfl

end Zone

theorem Night.Ok.quiet {nt nt' : Night} (ok : nt.Ok) (h : nt.Quiet nt') : nt'.Ok := by
  rcases h with rfl | ⟨-, -, slots, same⟩
  · exact ok
  · rw [same]
    simpa [Night.Ok, slots] using ok

theorem Zone.RangesOk.quiet {zn zn' : Zone} (ok : zn.RangesOk) (h : zn.Quiet zn') : zn'.RangesOk := by
  refine ⟨ok.settings.quiet h, ?_⟩
  rcases h.nights with ⟨-, gone⟩ | ⟨nt, nt', was, now, same⟩
  · simp [gone]
  · rw [now]
    rintro _ ⟨⟩
    exact (ok.night nt was).quiet same

/-! ### Messages that pass -/

theorem partSettingInRange_iff {id : Nat} (least : 1 ≤ id) (greatest : id ≤ 4) (v : Int) :
    partSettingInRange id v = true ↔ PartEntryOk (id, v) := by
  interval_cases id <;> simp [partSettingInRange, PartEntryOk, slotSeconds, and_assoc]

theorem partEntriesFault_none {earlier : List Nat} {i : Nat} {es : List (Nat × Int)}
    (passes : partEntriesFault earlier i es = none) : ∀ e ∈ es, PartEntryOk e := by
  induction es generalizing earlier i with
  | nil => simp
  | cons e rest ih =>
    obtain ⟨id, v⟩ := e
    unfold partEntriesFault at passes
    split at passes
    · cases passes
    · next named =>
      split at passes
      · cases passes
      · next inRange =>
        simp only [Bool.or_eq_true, Bool.not_eq_true', not_or, Bool.not_eq_false, Bool.and_eq_true, decide_eq_true_eq]
          at named inRange
        exact List.forall_mem_cons.mpr ⟨(partSettingInRange_iff named.1.1 named.1.2 v).mp inRange, ih passes⟩

/-- R181: a part setting written within its range. -/
theorem PartSettings.Ok.write {c : PartSettings} (ok : c.Ok) {e : Nat × Int} (entryOk : PartEntryOk e) : (c.write e).Ok := by
  obtain ⟨id, v⟩ := e
  simp only [PartSettings.Ok] at ok
  rcases entryOk with ⟨rfl, range⟩ | ⟨rfl, range⟩ | ⟨rfl, range⟩ | ⟨rfl, range⟩ <;>
    simp only [PartSettings.write, PartSettings.Ok] at range ⊢ <;> omega

theorem PartSettings.Ok.foldl_write {c : PartSettings} (ok : c.Ok) {es : List (Nat × Int)} (entriesOk : ∀ e ∈ es, PartEntryOk e) :
    (es.foldl PartSettings.write c).Ok := by
  induction es generalizing c with
  | nil => exact ok
  | cons e rest ih =>
    obtain ⟨entryOk, entriesOk⟩ := List.forall_mem_cons.mp entriesOk
    exact ih (ok.write entryOk) entriesOk

/-- R43, R127: what a ZONE_SET that passes has been checked for. -/
theorem zoneSetRefusal_none {r : ZoneSetReq} {s : State} (passes : zoneSetRefusal r s = none) :
    (r.entries.map (·.1)).Nodup ∧ (∀ e ∈ r.entries, ZoneEntryOk e) ∧
      (geometryClash (s.zone r.zone) r.entries = true → valueFieldOf r.entries [2, 4, 5] = none) ∧
      (formedWindow (s.zone r.zone) r.entries < formedClear (s.zone r.zone) r.entries →
        valueFieldOf r.entries [12, 13] = none) := by
  unfold zoneSetRefusal at passes
  dsimp only at passes
  split at passes
  · cases passes
  · split at passes
    · cases passes
    · split at passes
      · cases passes
      · next entries =>
        obtain ⟨apart, ok, -⟩ := entriesFault_eq_none.mp entries
        split at passes
        · cases passes
        · next geometry =>
          split at passes
          · cases passes
          · next window =>
            exact ⟨apart, ok, fun clash => by simpa [clash] using geometry, fun short => by simpa [short] using window⟩

theorem staged_eq_none_iff (zn : Zone) : zn.staged = Staged.none ↔ ∀ id, zn.pendingCopy id = none := by
  constructor
  · intro none id
    unfold Zone.pendingCopy
    rw [none]
    split <;> rfl
  · intro none
    have start : zn.staged.startSlot = Option.none := none 1
    have length : zn.staged.length = Option.none := none 2
    have holdOpen : zn.staged.holdOpen = Option.none := none 3
    have span : zn.staged.span = Option.none := none 4
    have missLimit : zn.staged.missLimit = Option.none := none 5
    calc
      zn.staged = ⟨zn.staged.startSlot, zn.staged.length, zn.staged.holdOpen, zn.staged.span, zn.staged.missLimit⟩ := rfl
      _ = Staged.none := by rw [start, length, holdOpen, span, missLimit, Staged.none]

section
variable {zn : Zone} {es : List (Nat × Int)}

/-- R44: after the entries, the zone's next night would have the settings that the message formed. -/
theorem upcoming_foldl_takeEntry (idle : zn.monitor = .standby → zn.staged = Staged.none) (apart : (es.map (·.1)).Nodup)
    (entriesOk : ∀ e ∈ es, ZoneEntryOk e) (id : Nat) : (es.foldl Zone.takeEntry zn).upcoming id = zn.formed es id := by
  rw [Zone.upcoming, Zone.pendingCopy_foldl_takeEntry apart entriesOk, Zone.setting_foldl_takeEntry apart entriesOk,
    Zone.formed, Zone.upcoming]
  split
  · next atOnce =>
    have noCopy : zn.pendingCopy id = none := by
      rcases atOnce with own | standby
      · exact zn.pendingCopy_of_lt own
      · exact (staged_eq_none_iff zn).mp (idle standby) id
    rw [noCopy]
    rfl
  · cases found : es.lookup id with
    | none => rfl
    | some v => exact Int.toNat_of_nonneg (zoneEntryOk_nonneg (lookup_ok entriesOk found))

/-- R43, R44: the settings after a ZONE_SET that passes. -/
theorem Zone.SettingsOk.foldl_takeEntry (ok : zn.SettingsOk) (apart : (es.map (·.1)).Nodup)
    (entriesOk : ∀ e ∈ es, ZoneEntryOk e) (miss : zn.formed es 5 ≤ zn.formed es 2 - zn.formed es 4)
    (run : zn.formed es 13 ≤ zn.formed es 12) : (es.foldl Zone.takeEntry zn).SettingsOk := by
  obtain ⟨geometry, applied, params, idle⟩ := ok
  have setting := Zone.setting_foldl_takeEntry apart entriesOk zn
  have copy := Zone.pendingCopy_foldl_takeEntry apart entriesOk zn
  have next := upcoming_foldl_takeEntry idle apart entriesOk
  have monitor : (es.foldl Zone.takeEntry zn).monitor = zn.monitor := (congrArg Zone.monitor (zn.foldl_takeEntry_frame es) :)
  generalize es.foldl Zone.takeEntry zn = written at *
  have formedOk {id : Nat} (range : ZoneEntryOk (id, zn.upcoming id)) : ZoneEntryOk (id, zn.formed es id) := by
    unfold Zone.formed
    cases found : es.lookup id with
    | none => exact range
    | some v => exact lookup_ok entriesOk found
  have appliedOk : written.applyStaged.geometry.Ok := by
    obtain ⟨ranges, -⟩ := (applied_geometryOk_iff zn).mp applied
    refine (applied_geometryOk_iff written).mpr ⟨fun id low high => ?_, ?_⟩
    · rw [next]
      exact formedOk (ranges id low high)
    · rwa [next, next, next]
  have idleAfter (standby : written.monitor = .standby) : written.staged = Staged.none := by
    have was : zn.monitor = .standby := monitor.symm.trans standby
    refine (staged_eq_none_iff written).mpr fun id => ?_
    rw [copy, if_pos (.inr was)]
    exact (staged_eq_none_iff zn).mp (idle was) id
  refine ⟨?_, appliedOk, ?_, idleAfter⟩
  · by_cases standby : written.monitor = .standby
    · have same : written.applyStaged.geometry = written.geometry := by
        simp only [Zone.applyStaged, idleAfter standby]
        rfl
      exact same ▸ appliedOk
    · have kept {id : Nat} (high : id ≤ 5) : written.setting id = zn.setting id := by
        rw [setting, if_neg (not_or.mpr ⟨by omega, monitor ▸ standby⟩)]
      obtain ⟨ranges, miss⟩ := (geometryOk_iff zn).mp geometry
      refine (geometryOk_iff written).mpr ⟨fun id low high => ?_, ?_⟩
      · rw [kept high]
        exact ranges id low high
      · rwa [kept (by decide), kept (by decide), kept (by decide)]
  · have settingFormed {id : Nat} (own : 5 < id) : written.setting id = zn.formed es id := by
      rw [setting, if_pos (.inl own), Zone.formed, zn.upcoming_of_lt own]
    obtain ⟨ranges, -⟩ := (paramsOk_iff zn).mp params
    refine (paramsOk_iff written).mpr ⟨fun id low high => ?_, ?_⟩
    · rw [settingFormed low]
      exact formedOk (by rw [zn.upcoming_of_lt low]; exact ranges id low high)
    · rwa [settingFormed (by decide), settingFormed (by decide)]

end

/-- R43: a message that passes forms settings that agree, or carries none of those that would not. -/
theorem zoneSetRefusal_none_formed {r : ZoneSetReq} {s : State} (ok : (s.zone r.zone).SettingsOk)
    (passes : zoneSetRefusal r s = none) :
    (s.zone r.zone).formed r.entries 5 ≤ (s.zone r.zone).formed r.entries 2 - (s.zone r.zone).formed r.entries 4 ∧
      (s.zone r.zone).formed r.entries 13 ≤ (s.zone r.zone).formed r.entries 12 := by
  obtain ⟨-, entriesOk, geometry, window⟩ := zoneSetRefusal_none passes
  obtain ⟨-, applied, params, -⟩ := ok
  rw [geometryClash_iff entriesOk] at geometry
  rw [← Int.ofNat_lt, formedWindow_eq entriesOk, formedClear_eq entriesOk] at window
  constructor
  · refine Int.not_lt.mp fun clash => ?_
    have formed {id : Nat} := formed_of_valueFieldOf (geometry clash) (s.zone r.zone) (id := id)
    rw [formed (by simp), formed (by simp), formed (by simp)] at clash
    exact absurd ((applied_geometryOk_iff _).mp applied).2 (Int.not_le.mpr clash)
  · refine Int.not_lt.mp fun short => ?_
    have formed {id : Nat} := formed_of_valueFieldOf (window short) (s.zone r.zone) (id := id)
    rw [formed (by simp), formed (by simp), Zone.upcoming_of_lt _ (by decide), Zone.upcoming_of_lt _ (by decide)] at short
    exact absurd ((paramsOk_iff _).mp params).2 (Int.not_le.mpr short)

/-! ### Moves -/

/-- A change of one zone, under part settings and an item in service that stay in range. -/
theorem SettingsOk.of_oneZone {s t : State} (ok : SettingsOk s) (z : Nat) (settings : t.settings.Ok) (item : ItemOk t.engine)
    (others : ∀ j, j ≠ z → t.zone j = s.zone j) (here : (s.zone z).RangesOk → (t.zone z).RangesOk) : SettingsOk t := by
  obtain ⟨-, zones, -⟩ := (settingsOk_iff s).mp ok
  refine (settingsOk_iff t).mpr ⟨settings, fun j => ?_, item⟩
  by_cases same : j = z
  · exact same ▸ here (zones z)
  · exact others j same ▸ zones j

theorem SettingsOk.item {s : State} (ok : SettingsOk s) : ItemOk s.engine := ((settingsOk_iff s).mp ok).2.2

theorem SettingsOk.zone {s : State} (ok : SettingsOk s) (z : Nat) : (s.zone z).RangesOk := ((settingsOk_iff s).mp ok).2.1 z

theorem SettingsOk.updZone {s : State} (ok : SettingsOk s) (z : Nat) {f : Zone → Zone}
    (here : (s.zone z).RangesOk → (f (s.zone z)).RangesOk) : SettingsOk (s.updZone z f) :=
  ok.of_oneZone z ok.1 ok.item (fun _ other => State.zone_updZone_ne s f other) fun was => by
    rw [State.zone_updZone_self]
    exact here was

theorem SettingsOk.quiet {s t : State} (ok : SettingsOk s) (h : Quiet s t) : SettingsOk t := by
  obtain ⟨part, zones, item⟩ := (settingsOk_iff s).mp ok
  exact (settingsOk_iff t).mpr ⟨h.settings ▸ part, fun z => (zones z).quiet (h.zones z), h.engine ▸ item⟩

theorem SettingsOk.zoneSet {s : State} (ok : SettingsOk s) {r : ZoneSetReq} (passes : zoneSetRefusal r s = none) :
    SettingsOk (s.updZone r.zone fun zn => zn.takeEntries r.entries) := by
  obtain ⟨apart, entriesOk, -, -⟩ := zoneSetRefusal_none passes
  refine ok.updZone r.zone fun was => ?_
  obtain ⟨miss, run⟩ := zoneSetRefusal_none_formed was.settings passes
  have written := was.settings.foldl_takeEntry apart entriesOk miss run
  have night : ((s.zone r.zone).takeEntries r.entries).night = (s.zone r.zone).night :=
    (congrArg Zone.night ((s.zone r.zone).takeEntries_frame r.entries) :)
  refine was.of_night_eq ?_ night
  rw [Zone.takeEntries_eq]
  exact written.of_eq rfl rfl rfl id

/-- R50 -/
theorem SettingsOk.queueNight {s : State} (ok : SettingsOk s) (z : Nat) (cause : CloseCause) :
    SettingsOk (queueNight z cause s) := by
  refine ok.of_oneZone z ok.1 ok.item (fun j other => by rw [queueNight_zone, if_neg other]) fun was => ?_
  rw [queueNight_zone, if_pos rfl]
  refine ⟨was.settings.of_eq rfl rfl rfl id, ?_⟩
  rintro _ queued
  obtain ⟨nt, night, rfl⟩ := Option.map_eq_some_iff.mp queued
  exact was.night nt night

/-- R48, R111, R113 -/
theorem SettingsOk.begin {s : State} (ok : SettingsOk s) (z : Nat) (survey : Bool) (monitor : MonitorState) (judge : Judgement)
    (active : monitor ≠ .standby) :
    SettingsOk (createNight z survey (s.updZone z fun zn => { zn with judge := judge, monitor := monitor })) := by
  have beside : BesideZones s (createNight z survey (s.updZone z fun zn => { zn with judge := judge, monitor := monitor })) :=
    (BesideZones.updZone s z _).trans (.createNight z survey _)
  have zone (j : Nat) := createNight_zone z survey (s.updZone z fun zn => { zn with judge := judge, monitor := monitor }) j
  simp only [State.zone_updZone] at zone
  refine ok.of_oneZone z (beside.settings ▸ ok.1) (beside.engine ▸ ok.item)
    (fun j other => by rw [zone, if_neg other, if_neg other]) fun was => ?_
  rw [zone, if_pos rfl, if_pos trivial]
  have started : Zone.SettingsOk { s.zone z with judge := judge, monitor := monitor } :=
    was.settings.of_eq rfl rfl rfl fun standby => absurd standby active
  exact started.withNewNight _ _ _

/-- R112 -/
theorem SettingsOk.stop {s : State} (ok : SettingsOk s) (z : Nat) :
    SettingsOk ((discardNight z s).updZone z Zone.enterStandby) := by
  have discarded := BesideZones.freeNight z s
  have zone (j : Nat) : ((discardNight z s).updZone z Zone.enterStandby).zone j =
      if j = z then { s.zone z with night := none }.enterStandby else s.zone j := by
    rw [State.zone_updZone, discardNight_zone, discardNight_zone, if_pos rfl]
    split <;> rfl
  have engine : ((discardNight z s).updZone z Zone.enterStandby).engine = s.engine := discarded.engine
  have settings : ((discardNight z s).updZone z Zone.enterStandby).settings = s.settings := discarded.settings
  refine ok.of_oneZone z (settings ▸ ok.1) (engine ▸ ok.item) (fun j other => by rw [zone, if_neg other]) fun was => ?_
  rw [zone, if_pos rfl]
  exact Zone.SettingsOk.withoutNight (was.settings.of_applied rfl rfl rfl) rfl

theorem dropNight_settings (z : Nat) (s : State) : (dropNight z s).settings = s.settings := by
  have free : (freeNight z s).settings = s.settings := (BesideZones.freeNight z s).settings
  unfold dropNight
  split
  · rfl
  · split
    · rw [voidClose_eq]
      exact free
    · exact free

/-- R117 -/
theorem SettingsOk.reset {s : State} (ok : SettingsOk s) (z : Nat) :
    SettingsOk ((dropNight z s).updZone z Zone.clearAll) := by
  have item : ItemOk (dropNight z s).engine := by
    rw [dropNight_engine]
    split
    · exact ok.item.voidItem z
    · exact ok.item
  refine ok.of_oneZone z (dropNight_settings z s ▸ ok.1) item (fun j other => ?_) fun was => ?_
  · rw [State.zone_updZone, if_neg other, dropNight_zone, if_neg other]
  · rw [State.zone_updZone_self, dropNight_zone, if_pos rfl]
    exact Zone.SettingsOk.clearAll (was.settings.of_eq rfl rfl rfl id)

/-- R79, R80 -/
theorem SettingsOk.startClose {s : State} (ok : SettingsOk s) {z : Nat} {nt : Night} (ready : closeReady s = some (z, nt)) :
    SettingsOk (startClose z nt s) := by
  obtain ⟨-, -, -, night⟩ := closeReady_some ready
  have nightOk : nt.Ok := (ok.zone z).night nt night
  have zone (j : Nat) : (Machine.startClose z nt s).zone j =
      if j = z then { s.zone z with night := some { nt with state := .closing } } else s.zone j :=
    State.zone_updZone s z j fun zn => { zn with night := some { nt with state := .closing } }
  refine ok.of_oneZone z ok.1 (fun c same => ?_) (fun j other => by rw [zone, if_neg other]) fun was => ?_
  · cases same
    exact ⟨(ok.zone z).settings.2.2.1, nightOk⟩
  · rw [zone, if_pos rfl]
    refine ⟨was.settings.of_eq rfl rfl rfl id, ?_⟩
    rintro _ ⟨⟩
    exact nightOk

/-- R81 -/
theorem SettingsOk.completeClose {s : State} (ok : SettingsOk s) (c : CloseItem) : SettingsOk (completeClose c s) := by
  have beside := completeClose_frame c s
  have item : ItemOk (Machine.completeClose c s).engine := beside.engine ▸ itemOk_none
  cases void : c.void with
  | true =>
    have voided : Machine.completeClose c s = { s with engine := none } := by simp [Machine.completeClose, void]
    rw [voided]
    obtain ⟨part, zones, -⟩ := (settingsOk_iff s).mp ok
    exact (settingsOk_iff _).mpr ⟨part, zones, itemOk_none⟩
  | false =>
    have zone := completeClose_zone void s
    have settings : (Machine.completeClose c s).settings = s.settings := beside.settings
    refine ok.of_oneZone c.zone (settings ▸ ok.1) item (fun j other => by rw [zone, if_neg other]) fun was => ?_
    rw [zone, if_pos rfl]
    exact was.settings.closed (closeVerdict_monitor c s) _ _ _

theorem abandonNights_beside (s : State) : BesideZones s (abandonNights s) := by
  unfold abandonNights
  induction zoneNumbers generalizing s with
  | nil => exact .refl s
  | cons z rest ih =>
    rw [List.foldl_cons]
    exact ((BesideZones.freeNight z s).trans (.updZone _ z _)).trans (ih _)

theorem State.halted_engine (s : State) (l : Link) : (s.halted l).engine = none := rfl

theorem State.halted_settings (s : State) (l : Link) : (s.halted l).settings = s.settings := rfl

theorem recomputeAll_settings (s : State) : (recomputeAll s).settings = s.settings := by
  obtain ⟨frame, -, -⟩ := recomputeAll_cases s
  generalize recomputeAll s = t at frame ⊢
  exact (congrArg State.settings frame :)

theorem abandonAll_settings (s : State) : (abandonAll s).settings = s.settings := by
  obtain ⟨l, halted⟩ := abandonAll_eq s
  rw [halted, State.halted_settings, recomputeAll_settings, (abandonNights_beside s).settings]

/-- R184 -/
theorem SettingsOk.abandonAll {s : State} (ok : SettingsOk s) : SettingsOk (abandonAll s) := by
  obtain ⟨part, zones, -⟩ := (settingsOk_iff s).mp ok
  refine (settingsOk_iff _).mpr ⟨?_, fun z => ?_, ?_⟩
  · rwa [abandonAll_settings]
  · rw [abandonAll_zone]
    split
    · exact Zone.SettingsOk.withoutNight ((zones z).settings.of_applied rfl rfl rfl) rfl
    · exact zones z
  · obtain ⟨l, halted⟩ := abandonAll_eq s
    rw [halted, State.halted_engine]
    exact itemOk_none

/-- The same part settings and zones, under an item in service that is in range. -/
theorem SettingsOk.of_parts {s t : State} (ok : SettingsOk s) (settings : t.settings = s.settings) (zones : t.zones = s.zones)
    (item : ItemOk t.engine) : SettingsOk t := by
  have zone (j : Nat) : t.zone j = s.zone j := by simp only [State.zone, zones]
  exact ok.of_oneZone 0 (settings ▸ ok.1) item (fun j _ => zone j) fun was => zone 0 ▸ was

/-- R42, R43, R48, R80, R181: every move keeps the ranges. -/
theorem NightMoves.settingsOk {s t : State} (h : NightMoves s t) (ok : SettingsOk s) : SettingsOk t := by
  induction h with
  | quiet h => exact ok.quiet h
  | trans _ _ ih₁ ih₂ => exact ih₂ (ih₁ ok)
  | partSet es passes =>
    obtain ⟨part, zones, item⟩ := (settingsOk_iff _).mp ok
    exact (settingsOk_iff _).mpr ⟨part.foldl_write (partEntriesFault_none passes), zones, item⟩
  | zoneSet r passes => exact ok.zoneSet passes
  | queues z cause waits => exact ok.queueNight z cause
  | begins z survey monitor judge valid idle active surveys => exact ok.begin z survey monitor judge active
  | stops z valid free => exact ok.stop z
  | stopsLater z closing => exact ok.updZone z fun was => was.of_night_eq (was.settings.of_eq rfl rfl rfl id) rfl
  | rebases z f armed =>
    refine ok.updZone z fun was => was.of_night_eq (was.settings.of_eq rfl rfl rfl ?_) rfl
    exact fun standby => nomatch standby
  | resets z valid => exact ok.reset z
  | closeStarts z nt ready => exact ok.startClose ready
  | testStarts test ready => exact ok.of_parts rfl rfl itemOk_testRun
  | closes c inService => exact ok.completeClose c
  | testEnds test inService => exact ok.of_parts rfl rfl itemOk_none
  | testQueued test idle => exact ok.of_parts rfl rfl ok.item
  | testCancelled test result queued => exact ok.of_parts rfl rfl ok.item
  | abandons => exact ok.abandonAll

/-! ### Resets and steps -/

theorem settingsOk_fullReset (l : Link) (s : State) : SettingsOk (fullReset l s) := settingsOk_reset

/-- R183: a RUNTIME restart keeps the settings, with the pending copies applied. -/
theorem SettingsOk.runtimeReset {s : State} (ok : SettingsOk s) (zones : Table.Rising s.zones) (l : Link) :
    SettingsOk (runtimeReset l s) := by
  refine (settingsOk_iff _).mpr ⟨ok.1, fun z => ?_, itemOk_none⟩
  have read : (Machine.runtimeReset l s).zone z = ((Table.find? s.zones z).map Zone.runtimeReset).getD Zone.reset :=
    Table.read_mapListed zones _ z
  rw [read]
  cases found : Table.find? s.zones z with
  | none => exact Zone.SettingsOk.withoutNight (settingsOk_reset.2.1 0) rfl
  | some zn =>
    have listed : s.zone z = zn := by rw [State.zone, Table.read, found]; rfl
    exact Zone.SettingsOk.clearAll (listed ▸ (ok.zone z).settings)

theorem exec_keeps_settings {c : Instr} {s t : State} (tables : TablesOk s) (ok : SettingsOk s) (e : exec c s = .next t) :
    SettingsOk t := by
  rcases exec_moves e with moves | ⟨l, rfl | rfl⟩
  · exact moves.settingsOk ok
  · exact settingsOk_fullReset l s
  · exact ok.runtimeReset tables.2.2.1.1 l

/-- Settles O56: every command is a run of moves, or a reset, and each keeps the ranges. -/
theorem settingsStayInRange : Obligations.SettingsStayInRange := by
  unfold Obligations.SettingsStayInRange
  exact fun s t tables ok e => (step_keeps (P := fun s => TablesOk s ∧ SettingsOk s) (fun _ _ h => h)
    (fun _ _ _ h e => ⟨exec_keeps_tables h.1 e, exec_keeps_settings h.1 h.2 e⟩) ⟨tables, ok⟩ e).2

end Sys2Proof.Machine
end

section
/-! SUPPORT. FORCE_CLOSE and EXCLUDE_NIGHT (R52, R114), and the zone commands that create or settle a night: ZONE_START, ZONE_SURVEY,
ZONE_STOP and RESET_ZONE (R89, R90, R110 to R113, R117). -/

namespace Sys2Proof.Machine

theorem zoneOk_of {z : Nat} (nonzero : z ≠ 0) (small : z < 256) : zoneOk z = true :=
  (zoneOk_iff z).mpr ⟨by omega, by omega⟩

/-- R50: a night queued. -/
theorem queueNight_of_night {z : Nat} {s : State} {nt : Night} (night : (s.zone z).night = some nt) (cause : CloseCause) :
    queueNight z cause s = { s with
      zones := Table.put Zone.reset s.zones z { s.zone z with night := some { nt with state := .queued, cause := some cause } }
      closeQueue := s.closeQueue ++ [.zone z] } := by
  rw [queueNight, State.updZone, night]
  rfl

/-- Settles O42: the two commands by the state of the night, one case for each. -/
theorem forceAndExcludeActOnTheNight : Obligations.ForceAndExcludeActOnTheNight := by
  unfold Obligations.ForceAndExcludeActOnTheNight
  intro tag z s small
  have parsed : parseNumber 1 (putNat 1 z) = some z := parseNumber_putNat small
  refine ⟨fun takes => (serve_fields (owner := forceCloseAnswer) takes parsed).trans (congrArg Host.Outcome.next ?_),
    fun takes => (serve_fields (owner := excludeNightAnswer) takes parsed).trans (congrArg Host.Outcome.next ?_)⟩
  · by_cases zero : z = 0
    · subst zero
      rfl
    · rw [if_neg zero, forceCloseAnswer, zoneOk_of zero small, State.popIntake_zone]
      cases night : (s.zone z).night with
      | none => rfl
      | some nt =>
        dsimp only
        cases state : nt.state
        case waiting =>
          dsimp only [Bool.not_true]
          rw [if_neg (by decide), queueNight_of_night (s := s.popIntake) night]
          rfl
        all_goals rfl
  · by_cases zero : z = 0
    · subst zero
      rfl
    · rw [if_neg zero, excludeNightAnswer, zoneOk_of zero small, State.popIntake_zone]
      cases night : (s.zone z).night with
      | none => rfl
      | some nt =>
        dsimp only [Bool.not_true]
        rw [if_neg (by decide)]
        by_cases isOpen : nt.state = .pending ∨ nt.state = .waiting
        · rw [if_pos isOpen, if_pos ((NightState.isOpen_iff _).mpr isOpen)]
          rfl
        · rw [if_neg isOpen, if_neg (mt (NightState.isOpen_iff _).mp isOpen)]
          rfl

/-! ### What the zone commands leave alone -/

/-- A change of zones, meters, groups and link at most. -/
structure ZoneWork (s t : State) : Prop where
  frame : { t with zones := s.zones, meters := s.meters, groups := s.groups, link := s.link } = s

namespace ZoneWork

theorem refl (s : State) : ZoneWork s s := ⟨rfl⟩

theorem trans {s t u : State} (h : ZoneWork s t) (k : ZoneWork t u) : ZoneWork s u :=
  ⟨(congrArg (fun v : State => { v with zones := s.zones, meters := s.meters, groups := s.groups, link := s.link })
    k.frame).trans h.frame⟩

theorem popIntake (s : State) : ZoneWork s s.popIntake := ⟨rfl⟩

theorem updZone (s : State) (z : Nat) (f : Zone → Zone) : ZoneWork s (s.updZone z f) := ⟨rfl⟩

theorem updAttachedCovers (s : State) (z : Nat) (f : Cover → Cover) : ZoneWork s (s.updAttachedCovers z f) :=
  ⟨(congrArg (fun v : State => { v with zones := s.zones, groups := s.groups, link := s.link })
    (updAttachedCovers_frame s z f) :)⟩

theorem createNight (z : Nat) (survey : Bool) (s : State) : ZoneWork s (createNight z survey s) :=
  (updZone s z _).trans (updAttachedCovers _ z _)

theorem freeNight (z : Nat) (s : State) : ZoneWork s (freeNight z s) :=
  (updZone s z _).trans (updAttachedCovers _ z _)

theorem raiseChange (z : Nat) (before : MonitorState) (s : State) : ZoneWork s (raiseChange z before s) := by
  unfold Machine.raiseChange State.raiseIf
  split <;> exact ⟨rfl⟩

theorem refreshGroups (z : Nat) (s : State) : ZoneWork s (refreshGroups z s) :=
  ⟨(congrArg (fun v : State => { v with zones := s.zones, meters := s.meters }) (refreshGroups_frame z s) :)⟩

/-- R55, R78 -/
theorem discardNight (z : Nat) (s : State) : ZoneWork (s.dequeue (.zone z)) (discardNight z s) :=
  ⟨(congrArg (fun v : State => v.dequeue (.zone z)) (freeNight z s).frame :)⟩

end ZoneWork

theorem raiseChange_zone (z : Nat) (before : MonitorState) (s : State) (j : Nat) :
    (raiseChange z before s).zone j = s.zone j := State.raiseIf_zone s _ _ j

theorem raiseChange_meter (z : Nat) (before : MonitorState) (s : State) (ch : Nat) :
    (raiseChange z before s).meter? ch = s.meter? ch := by
  unfold raiseChange State.raiseIf
  split <;> rfl

/-- R69: the covers of a zone's sides, where the zone changes first and keeps its list. -/
theorem updZone_covers_meter {s : State} {z : Nat} (list : ListOk (s.zone z).attach) {g : Zone → Zone}
    (attach : (g (s.zone z)).attach = (s.zone z).attach) (f : Cover → Cover) (ch : Nat) :
    ((s.updZone z g).updAttachedCovers z f).meter? ch = (s.meter? ch).map fun m => { m with
      fromCover := if ⟨ch, .fromSide⟩ ∈ (s.zone z).attach then m.fromCover.map f else m.fromCover
      toCover := if ⟨ch, .toSide⟩ ∈ (s.zone z).attach then m.toCover.map f else m.toCover } := by
  have kept : ((s.updZone z g).zone z).attach = (s.zone z).attach := by rw [State.zone_updZone_self, attach]
  rw [updAttachedCovers_meter _ _ _ (kept ▸ list), kept]
  rfl

theorem freeNight_meter {s : State} {z : Nat} (list : ListOk (s.zone z).attach) (ch : Nat) :
    (freeNight z s).meter? ch = (s.meter? ch).map fun m => { m with
      fromCover := if ⟨ch, .fromSide⟩ ∈ (s.zone z).attach then m.fromCover.map Cover.clearNight else m.fromCover
      toCover := if ⟨ch, .toSide⟩ ∈ (s.zone z).attach then m.toCover.map Cover.clearNight else m.toCover } :=
  updZone_covers_meter list (g := fun zn => { zn with night := none }) rfl _ ch

theorem createNight_meter {s : State} {z : Nat} (list : ListOk (s.zone z).attach) (survey : Bool) (ch : Nat) :
    (createNight z survey s).meter? ch = (s.meter? ch).map fun m => { m with
      fromCover := if ⟨ch, .fromSide⟩ ∈ (s.zone z).attach then m.fromCover.map (fun _ => Cover.empty) else m.fromCover
      toCover := if ⟨ch, .toSide⟩ ∈ (s.zone z).attach then m.toCover.map (fun _ => Cover.empty) else m.toCover } :=
  updZone_covers_meter list (g := fun zn => zn.withNewNight s.settings.offset s.now survey) rfl _ ch

/-- What a request that is answered OK leaves, but for the link. -/
theorem serve_done {α : Type} {kind tag : Byte} {payload : List Byte} {parse : List Byte → Option α}
    {owner : α → State → Answer} {s u : State} {r : α} {body : List Byte} (takes : Takes s kind tag payload)
    (parsed : parse payload = some r) (answer : owner r s.popIntake = okWith u body) :
    ∃ t, serve kind tag payload (fun p s => withFields (parse p) s fun r => owner r s) s = .next t ∧
      (∃ reply, t.link.reply = some reply ∧ reply.code = .ok ∧ reply.body = body) ∧ { t with link := u.link } = u :=
  ⟨_, serve_answer takes parsed answer, ⟨_, rfl, rfl, rfl⟩, rfl⟩

/-- What a request that is answered OK with no body leaves of the zones, the meters and the rest. -/
theorem serve_work {α : Type} {kind tag : Byte} {payload : List Byte} {parse : List Byte → Option α}
    {owner : α → State → Answer} {s u : State} {r : α} (takes : Takes s kind tag payload) (parsed : parse payload = some r)
    (answer : owner r s.popIntake = okWith u []) :
    ∃ t, serve kind tag payload (fun p s => withFields (parse p) s fun r => owner r s) s = .next t ∧
      (∃ reply, t.link.reply = some reply ∧ reply.code = .ok ∧ reply.body = []) ∧ (∀ j, t.zone j = u.zone j) ∧
      (∀ ch, t.meter? ch = u.meter? ch) ∧ ZoneWork u t := by
  obtain ⟨t, served, reply, rest⟩ := serve_done takes parsed answer
  exact ⟨t, served, reply, fun j => (congrArg (fun v : State => v.zone j) rest :),
    fun ch => (congrArg (fun v : State => v.meter? ch) rest :),
    ⟨(congrArg (fun v : State => { v with zones := u.zones, meters := u.meters, groups := u.groups }) rest :)⟩⟩

/-! ### ZONE_STOP (R89, R112) -/

/-- R112: a stop that discards the night, and the zone it leaves. -/
theorem stopZone_zone (z : Nat) (s : State) (j : Nat) :
    (stopZone z s).zone j =
      if j = z then { (s.zone z).applyStaged with night := none, monitor := .standby } else s.zone j := by
  rw [stopZone, refreshGroups_zone, raiseChange_zone, State.zone_updZone, discardNight_zone, discardNight_zone, if_pos rfl]
  split <;> rfl

theorem stopZone_work (z : Nat) (s : State) : ZoneWork (s.dequeue (.zone z)) (stopZone z s) :=
  (((ZoneWork.discardNight z s).trans (.updZone _ z _)).trans (.raiseChange z _ _)).trans (.refreshGroups z _)

theorem stopZone_meter (z : Nat) (s : State) (ch : Nat) :
    (stopZone z s).meter? ch = (freeNight z s).meter? ch := by
  rw [stopZone, refreshGroups_meter, raiseChange_meter]
  rfl

/-- Settles O43, by the monitor state and the state of the night. -/
theorem zoneStopSettlesZone : Obligations.ZoneStopSettlesZone := by
  unfold Obligations.ZoneStopSettlesZone
  intro tag z s valid takes
  have parsed : parseNumber 1 (putNat 1 z) = some z := parseNumber_putNat (by omega)
  have ok : zoneOk z = true := (zoneOk_iff z).mpr valid
  have answers {a : Answer} (h : zoneStopAnswer z s.popIntake = a) := serve_answer (owner := zoneStopAnswer) takes parsed h
  have closing : isClosing (s.zone z) = decide (nightState s z = some .closing) := NightMoves.isClosing_eq s z
  refine ⟨fun standby => ?_, fun active held => ?_, fun active free list => ?_⟩
  · have refused : zoneStopAnswer z s.popIntake = refuse s.popIntake .notActive := by
      simp [zoneStopAnswer, ok, standby]
    exact answers refused
  · have later : zoneStopAnswer z s.popIntake =
        okWith (s.popIntake.updZone z fun zn => { zn with stopPending := true }) [] := by
      simp [zoneStopAnswer, ok, active, closing, held]
    exact answers later
  · have work : zoneStopAnswer z s.popIntake = okWith (stopZone z s.popIntake) [] := by
      simp [zoneStopAnswer, ok, active, closing, free]
    obtain ⟨t, served, reply, zone, meter, rest⟩ := serve_work (owner := zoneStopAnswer) takes parsed work
    have all : ZoneWork (s.dequeue (.zone z)) t :=
      ((ZoneWork.popIntake (s.dequeue (.zone z))).trans (stopZone_work z s.popIntake)).trans rest
    refine ⟨t, served, reply, ?_, fun j other => ?_, (congrArg State.closeQueue all.frame :), fun ch => ?_,
      (congrArg (fun v : State => { v with closeQueue := s.closeQueue }) all.frame :)⟩
    · rw [zone, stopZone_zone, if_pos rfl]
      rfl
    · rw [zone, stopZone_zone, if_neg other]
      rfl
    · rw [meter, stopZone_meter, freeNight_meter (s := s.popIntake) list]
      rfl

/-! ### RESET_ZONE (R90, R117) -/

theorem resetZone_zone (z : Nat) (s : State) (j : Nat) :
    (resetZone z s).zone j = if j = z then (s.zone z).clearAll else s.zone j := by
  rw [resetZone, refreshGroups_zone, raiseChange_zone, State.zone_updZone, dropNight_zone, dropNight_zone, if_pos rfl]
  split <;> rfl

/-- R117 step 1: beside zones and meters, a night that is dropped leaves the queue and the engine at most. -/
theorem dropNight_work (z : Nat) (s : State) :
    ZoneWork { s with closeQueue := (dropNight z s).closeQueue, engine := (dropNight z s).engine } (dropNight z s) := by
  have free := ZoneWork.freeNight z s
  unfold dropNight
  split
  · exact .refl s
  · split
    · rw [voidClose_eq]
      exact ⟨(congrArg (fun v : State => { v with
        closeQueue := (freeNight z s).closeQueue, engine := voidItem z (freeNight z s).engine }) free.frame :)⟩
    · exact ⟨(congrArg (fun v : State => { v with
        closeQueue := (discardNight z s).closeQueue, engine := (discardNight z s).engine }) free.frame :)⟩

theorem resetZone_work (z : Nat) (s : State) :
    ZoneWork { s with closeQueue := (dropNight z s).closeQueue, engine := (dropNight z s).engine } (resetZone z s) :=
  (((dropNight_work z s).trans (.updZone _ z _)).trans (.raiseChange z _ _)).trans (.refreshGroups z _)

/-- R69, R117: only a zone that has a night has its covers cleared. -/
theorem dropNight_meter {s : State} {z : Nat} (list : ListOk (s.zone z).attach) (ch : Nat) :
    (dropNight z s).meter? ch = (s.meter? ch).map fun m => { m with
      fromCover := m.fromCover.map fun cv =>
        if (s.zone z).night ≠ none ∧ ⟨ch, .fromSide⟩ ∈ (s.zone z).attach then cv.clearNight else cv
      toCover := m.toCover.map fun cv =>
        if (s.zone z).night ≠ none ∧ ⟨ch, .toSide⟩ ∈ (s.zone z).attach then cv.clearNight else cv } := by
  have choose (p : Prop) [Decidable p] (cover : Option Cover) :
      (if p then cover.map Cover.clearNight else cover) = cover.map fun cv => if p then cv.clearNight else cv := by
    split <;> simp
  unfold dropNight
  split
  · next night => simp [night]
  · next nt night =>
    simp only [night, ne_eq, reduceCtorEq, not_false_eq_true, true_and, ← choose]
    rw [← freeNight_meter list]
    split
    · rw [voidClose_eq]
      rfl
    · rfl

theorem resetZone_meter (z : Nat) (s : State) (ch : Nat) : (resetZone z s).meter? ch = (dropNight z s).meter? ch := by
  rw [resetZone, refreshGroups_meter, raiseChange_meter]
  rfl

/-- Settles O45: what dropping the night leaves, then the zone cleared. -/
theorem resetZoneClearsZone : Obligations.ResetZoneClearsZone := by
  unfold Obligations.ResetZoneClearsZone
  intro tag z s valid queueOk list takes
  have parsed : parseNumber 1 (putNat 1 z) = some z := parseNumber_putNat (by omega)
  have work : resetZoneAnswer z s.popIntake = okWith (resetZone z s.popIntake) [] := by
    simp [resetZoneAnswer, (zoneOk_iff z).mpr valid]
  obtain ⟨t, served, reply, zone, meter, rest⟩ := serve_work (owner := resetZoneAnswer) takes parsed work
  have queue : (dropNight z s.popIntake).closeQueue = s.closeQueue.filter fun e => decide (e ≠ .zone z) :=
    dropNight_closeQueue (s := s.popIntake) (queueOk.2.1 z).mp
  have engine : (dropNight z s.popIntake).engine =
      if nightState s z = some .closing then voidItem z s.engine else s.engine := dropNight_engine z s.popIntake
  have reset := resetZone_work z s.popIntake
  rw [queue, engine] at reset
  have all := ((ZoneWork.popIntake { s with
    closeQueue := s.closeQueue.filter fun e => decide (e ≠ .zone z)
    engine := if nightState s z = some .closing then voidItem z s.engine else s.engine }).trans reset).trans rest
  have engine : t.engine = if nightState s z = some .closing then voidItem z s.engine else s.engine :=
    (congrArg State.engine all.frame :)
  refine ⟨t, served, reply, ?_, fun j other => ?_, (congrArg State.closeQueue all.frame :), fun c service here closing => ?_,
    fun free => ?_, fun ch => ?_, (congrArg (fun v : State => { v with closeQueue := s.closeQueue, engine := s.engine }) all.frame :)⟩
  · rw [zone, resetZone_zone, if_pos rfl]
    rfl
  · rw [zone, resetZone_zone, if_neg other]
    rfl
  · rw [engine, if_pos closing, service]
    simp [voidItem, here]
  · rw [engine, if_neg free]
  · rw [meter, resetZone_meter, dropNight_meter (s := s.popIntake) list]
    rfl

/-! ### ZONE_START and ZONE_SURVEY (R48, R110, R111, R113) -/

section
variable {s : State} {z : Nat} {f : Zone → Zone}

/-- R48: the zones after a command that changes a zone and creates a night for it. -/
theorem beginNight_zone (survey : Bool) (j : Nat) :
    (refreshGroups z (createNight z survey (s.updZone z f))).zone j =
      if j = z then (f (s.zone z)).withNewNight s.settings.offset s.now survey else s.zone j := by
  rw [refreshGroups_zone, createNight_zone, State.zone_updZone_self]
  by_cases here : j = z
  · simp [here]
  · rw [if_neg here, if_neg here, State.zone_updZone_ne s f here]

theorem beginNight_work (survey : Bool) : ZoneWork s (refreshGroups z (createNight z survey (s.updZone z f))) :=
  ((ZoneWork.updZone s z f).trans (.createNight z survey _)).trans (.refreshGroups z _)

/-- R69: the covers of the zone's sides are emptied. -/
theorem beginNight_meter (list : ListOk (s.zone z).attach) (attach : (f (s.zone z)).attach = (s.zone z).attach)
    (survey : Bool) (ch : Nat) :
    (refreshGroups z (createNight z survey (s.updZone z f))).meter? ch = (s.meter? ch).map fun m => { m with
      fromCover := if ⟨ch, .fromSide⟩ ∈ (s.zone z).attach then m.fromCover.map (fun _ => Cover.empty) else m.fromCover
      toCover := if ⟨ch, .toSide⟩ ∈ (s.zone z).attach then m.toCover.map (fun _ => Cover.empty) else m.toCover } := by
  have kept : ((s.updZone z f).zone z).attach = (s.zone z).attach := by rw [State.zone_updZone_self, attach]
  rw [refreshGroups_meter, createNight_meter (kept ▸ list), kept]
  rfl

theorem startRefusal_eq (z : Nat) (s : State) :
    startRefusal z s =
      if (s.zone z).monitor ≠ .standby then some .zoneActive
      else if (s.zone z).attach = [] then some .noMeters
      else if s.clock = none then some .noClock else none := by
  simp [startRefusal]

theorem startRefusal_passes (standby : (s.zone z).monitor = .standby) (attached : (s.zone z).attach ≠ []) {clock : Nat}
    (now : s.clock = some clock) : startRefusal z s = none := by
  simp [startRefusal_eq, standby, attached, now]

/-- R41, R48: the zone with its pending copies applied, and the night on its chosen window. -/
theorem withNewNight_eq (zn : Zone) (survey : Bool) {clock : Nat} (now : s.clock = some clock) :
    zn.withNewNight s.settings.offset s.now survey = { zn.applyStaged with
      night := some (createdNight zn.applyStaged.geometry s.settings.offset
        (chooseStart zn.applyStaged.geometry s.settings.offset clock zn.lastClosed) survey) } := by
  have clock : s.now = clock := by simp [State.now, now]
  rw [clock]
  rfl

end

/-- R110 step 1: what ZONE_START asks of the seed. -/
abbrev ZoneStartReq.SeedOk (r : ZoneStartReq) : Prop :=
  (∀ b ∈ r.seed, b ≤ 20000000) ∧ (r.mode = 1 → r.seed ≠ none)

section
variable {r : ZoneStartReq}

theorem zoneStartFault_zone (zero : r.zone = 0) : zoneStartFault r = some 1 := by
  rw [zoneStartFault, zero]
  rfl

theorem zoneStartFault_mode (valid : ZoneValid r.zone) (bad : 1 < r.mode) : zoneStartFault r = some 2 := by
  simp [zoneStartFault, (zoneOk_iff r.zone).mpr valid, bad]

theorem zoneStartFault_seed (valid : ZoneValid r.zone) (mode : r.mode ≤ 1) :
    zoneStartFault r = if r.SeedOk then none else some 3 := by
  rw [zoneStartFault, (zoneOk_iff r.zone).mpr valid, if_neg (by decide), if_neg (Nat.not_lt.mpr mode)]
  split
  · next b seed => simp [ZoneStartReq.SeedOk, seed, Config.flowLimit]
  · next seed => by_cases resume : r.mode = 1 <;> simp [ZoneStartReq.SeedOk, seed, resume]

theorem zoneStartAnswer_fault {field : Nat} (fault : zoneStartFault r = some field) (s : State) :
    zoneStartAnswer r s = badField s field := by
  rw [zoneStartAnswer, fault]

theorem zoneStartAnswer_refused {code : ReplyCode} {s : State} (fields : zoneStartFault r = none)
    (refused : startRefusal r.zone s = some code) : zoneStartAnswer r s = refuse s code := by
  rw [zoneStartAnswer, fields]
  dsimp only
  rw [refused]

theorem zoneSurveyAnswer_refused {z : Nat} {code : ReplyCode} {s : State} (valid : ZoneValid z)
    (refused : startRefusal z s = some code) : zoneSurveyAnswer z s = refuse s code := by
  rw [zoneSurveyAnswer, (zoneOk_iff z).mpr valid, if_neg (by decide), refused]

end

/-- R110 steps 2 to 4: the three refusals that ZONE_START and ZONE_SURVEY share, where every field passes. -/
theorem startRefusals {s : State} {z : Nat} {fieldsOk : Prop} {answers : ReplyCode → List Byte → Prop}
    (refused : fieldsOk → ∀ code, startRefusal z s = some code → answers code []) :
    (fieldsOk → ¬ (s.zone z).monitor = .standby → answers .zoneActive []) ∧
      (fieldsOk → (s.zone z).monitor = .standby → ¬ (s.zone z).attach ≠ [] → answers .noMeters []) ∧
      (fieldsOk → (s.zone z).monitor = .standby → (s.zone z).attach ≠ [] → s.clock = none → answers .noClock []) := by
  refine ⟨fun ok active => refused ok _ ?_, fun ok standby empty => refused ok _ ?_,
    fun ok standby attached unset => refused ok _ ?_⟩
  · simp [startRefusal_eq, active]
  · simp [startRefusal_eq, standby, not_not.mp empty]
  · simp [startRefusal_eq, standby, attached, unset]

/-- Settles O39: the two commands that begin a night, and the checks they share. -/
theorem zoneStartCreatesNight : Obligations.ZoneStartCreatesNight := by
  unfold Obligations.ZoneStartCreatesNight
  refine ⟨fun tag r clock s valid mode seed resume standby attached list now takes => ?_,
    fun tag z clock s valid standby attached list now takes => ?_, fun tag r s zone mode seed => ⟨fun takes => ?_, fun takes => ?_⟩⟩
  · have parsed := parseZoneStart_put (r := r) (by omega) (by omega) fun b hb => by have := seed b hb; omega
    have seedOk : r.SeedOk := ⟨seed, fun mode => Option.isSome_iff_ne_none.mp (resume mode)⟩
    have work : zoneStartAnswer r s.popIntake = okWith (startZone r s.popIntake) [] := by
      rw [zoneStartAnswer, zoneStartFault_seed valid mode, if_pos seedOk,
        startRefusal_passes (s := s.popIntake) standby attached now]
    obtain ⟨t, served, reply, zone, meter, rest⟩ := serve_work (owner := zoneStartAnswer) takes parsed work
    have all := ((ZoneWork.popIntake s).trans (beginNight_work false)).trans rest
    refine ⟨t, served, reply, ?_, fun j other => ?_, fun ch => ?_, all.frame⟩
    · have monitor : (if r.mode = 0 then MonitorState.learning else .watch) = if r.mode = 1 then .watch else .learning := by
        obtain start | resume : r.mode = 0 ∨ r.mode = 1 := by omega
        · rw [start]
          rfl
        · rw [resume]
          rfl
      rw [zone, startZone, beginNight_zone, if_pos rfl, withNewNight_eq (s := s.popIntake) _ _ now, monitor]
      rfl
    · rw [zone, startZone, beginNight_zone, if_neg other]
      rfl
    · rw [meter, startZone, beginNight_meter (s := s.popIntake) list rfl]
      rfl
  · have parsed : parseNumber 1 (putNat 1 z) = some z := parseNumber_putNat (by omega)
    have work : zoneSurveyAnswer z s.popIntake = okWith (surveyZone z s.popIntake) [] := by
      rw [zoneSurveyAnswer, (zoneOk_iff z).mpr valid, if_neg (by decide),
        startRefusal_passes (s := s.popIntake) standby attached now]
    obtain ⟨t, served, reply, zone, meter, rest⟩ := serve_work (owner := zoneSurveyAnswer) takes parsed work
    have all := ((ZoneWork.popIntake s).trans (beginNight_work true)).trans rest
    refine ⟨t, served, reply, ?_, fun j other => ?_, fun ch => ?_, all.frame⟩
    · rw [zone, surveyZone, beginNight_zone, if_pos rfl, withNewNight_eq (s := s.popIntake) _ _ now]
      rfl
    · rw [zone, surveyZone, beginNight_zone, if_neg other]
      rfl
    · rw [meter, surveyZone, beginNight_meter (s := s.popIntake) list rfl]
      rfl
  · have parsed := parseZoneStart_put (r := r) zone mode seed
    have names {field : Nat} (fault : zoneStartFault r = some field) :=
      serve_answer (owner := zoneStartAnswer) takes parsed (zoneStartAnswer_fault fault s.popIntake)
    refine ⟨fun zero => names (zoneStartFault_zone zero), fun valid bad => names (zoneStartFault_mode valid bad),
      fun valid mode bad => names ((zoneStartFault_seed valid mode).trans (if_neg bad)),
      startRefusals (s := s) (answers := fun code body => exec (.zoneStart tag (putZoneStart r)) s =
        .next (s.popIntake.replied 0x21 tag code body)) ?_⟩
    · rintro ⟨valid, mode, seedOk⟩ code refused
      have fields : zoneStartFault r = none := by rw [zoneStartFault_seed valid mode, if_pos seedOk]
      exact serve_answer takes parsed (zoneStartAnswer_refused (s := s.popIntake) fields refused)
  · refine startRefusals (s := s) (answers := fun code body => exec (.zoneSurvey tag (putNat 1 r.zone)) s =
      .next (s.popIntake.replied 0x23 tag code body)) fun valid code refused => ?_
    exact serve_answer (owner := zoneSurveyAnswer) takes (parseNumber_putNat zone)
      (zoneSurveyAnswer_refused (s := s.popIntake) valid refused)

end Sys2Proof.Machine
end

section
/-! SUPPORT. ZONE_SET (R43, R44, R127, R133): what a message that passes leaves, and what each check draws; and zone 0 of the
requests that carry a zone. -/

namespace Sys2Proof.Machine

/-! ### The checks of a message, in order (R43, R127) -/

section
variable {r : ZoneSetReq} {s : State}

theorem zoneSetRefusal_zone (zero : r.zone = 0) : zoneSetRefusal r s = some (.badField, 1) := by
  simp [zoneSetRefusal, zero, zoneOk]

theorem zoneSetRefusal_count (valid : ZoneValid r.zone) (bad : zoneEntryCountOk r.count = false) :
    zoneSetRefusal r s = some (.badField, 2) := by
  simp [zoneSetRefusal, (zoneOk_iff r.zone).mpr valid, bad]

theorem zoneSetRefusal_entry (valid : ZoneValid r.zone) (count : zoneEntryCountOk r.count = true) {field : Nat}
    (fault : entriesFault [] 1 r.entries = some field) : zoneSetRefusal r s = some (.badField, field) := by
  simp [zoneSetRefusal, (zoneOk_iff r.zone).mpr valid, count, fault]

/-- R43 step 2: the request whose zone, count and entries pass. -/
structure ZoneSetReq.EntriesPass (r : ZoneSetReq) : Prop where
  valid : ZoneValid r.zone
  count : zoneEntryCountOk r.count = true
  apart : (r.entries.map (·.1)).Nodup
  ok : ∀ e ∈ r.entries, ZoneEntryOk e

theorem ZoneSetReq.EntriesPass.entriesFault (pass : r.EntriesPass) : entriesFault [] 1 r.entries = none :=
  entriesFault_eq_none.mpr ⟨pass.apart, pass.ok, fun _ _ => List.not_mem_nil⟩

theorem zoneSetRefusal_geometry (pass : r.EntriesPass)
    (clash : (s.zone r.zone).formed r.entries 2 - (s.zone r.zone).formed r.entries 4 < (s.zone r.zone).formed r.entries 5)
    {field : Nat} (named : valueFieldOf r.entries [2, 4, 5] = some field) :
    zoneSetRefusal r s = some (.badField, field) := by
  simp [zoneSetRefusal, (zoneOk_iff r.zone).mpr pass.valid, pass.count, pass.entriesFault,
    (geometryClash_iff pass.ok (s.zone r.zone)).mpr clash, named]

theorem geometryClash_eq_false {es : List (Nat × Int)} {zn : Zone} (ok : ∀ e ∈ es, ZoneEntryOk e)
    (agree : zn.formed es 5 ≤ zn.formed es 2 - zn.formed es 4) : geometryClash zn es = false :=
  Bool.eq_false_iff.mpr (mt (geometryClash_iff ok zn).mp (Int.not_lt.mpr agree))

theorem zoneSetRefusal_window (pass : r.EntriesPass)
    (agree : (s.zone r.zone).formed r.entries 5 ≤ (s.zone r.zone).formed r.entries 2 - (s.zone r.zone).formed r.entries 4)
    (short : (s.zone r.zone).formed r.entries 12 < (s.zone r.zone).formed r.entries 13)
    {field : Nat} (named : valueFieldOf r.entries [12, 13] = some field) : zoneSetRefusal r s = some (.badField, field) := by
  rw [← formedWindow_eq pass.ok, ← formedClear_eq pass.ok, Int.ofNat_lt] at short
  simp [zoneSetRefusal, (zoneOk_iff r.zone).mpr pass.valid, pass.count, pass.entriesFault,
    geometryClash_eq_false pass.ok agree, short, named]

/-- R127: once the cross-checks pass, only a confirm window lowered in an armed zone is refused. -/
theorem zoneSetRefusal_armed (pass : r.EntriesPass)
    (agree : (s.zone r.zone).formed r.entries 5 ≤ (s.zone r.zone).formed r.entries 2 - (s.zone r.zone).formed r.entries 4)
    (run : (s.zone r.zone).formed r.entries 13 ≤ (s.zone r.zone).formed r.entries 12) :
    zoneSetRefusal r s =
      if (s.zone r.zone).formed r.entries 12 < (s.zone r.zone).setting 12 ∧ (s.zone r.zone).monitor.armed = true then
        some (.zoneActive, 0) else none := by
  have lowered : (s.zone r.zone).formed r.entries 12 < (s.zone r.zone).setting 12 ↔
      formedWindow (s.zone r.zone) r.entries < (s.zone r.zone).params.confirmWindow := by
    rw [← formedWindow_eq pass.ok]
    exact Int.ofNat_lt
  rw [← formedWindow_eq pass.ok, ← formedClear_eq pass.ok, Int.ofNat_le] at run
  rw [if_congr (and_congr_left' lowered) rfl rfl]
  simp [zoneSetRefusal, (zoneOk_iff r.zone).mpr pass.valid, pass.count, pass.entriesFault,
    geometryClash_eq_false pass.ok agree, Nat.not_lt.mpr run]

theorem zoneSetAnswer_field {field : Nat} (refusal : zoneSetRefusal r s = some (.badField, field)) :
    zoneSetAnswer r s = badField s field := by
  rw [zoneSetAnswer, refusal]

end

/-- R43: a count that fails leaves no entries to read. -/
theorem parseZoneSet_badCount {z n : Nat} (zone : z < 256) (small : n < 256) (bad : n = 0 ∨ 20 < n) (p : List Byte) :
    parseZoneSet (putNat 1 z ++ putNat 1 n ++ p) = some ⟨z, n, []⟩ := by
  have number : fieldAt (putNat 1 z ++ putNat 1 n ++ p) 0 1 = z := by simp (disch := omega) [fieldAt]
  have count : fieldAt (putNat 1 z ++ putNat 1 n ++ p) 1 1 = n := by simp (disch := omega) [fieldAt]
  have long : ¬ (putNat 1 z ++ putNat 1 n ++ p).length < 2 := by simp
  have fails : zoneEntryCountOk n = false := by
    rcases bad with rfl | high
    · rfl
    · simp [zoneEntryCountOk, high]
  rw [parseZoneSet, if_neg long, number, count, fails]
  rfl

/-- R43 step 2: the field that the first failing entry names. -/
theorem entriesFault_first {good : List (Nat × Int)} (apart : (good.map (·.1)).Nodup) (ok : ∀ g ∈ good, ZoneEntryOk g)
    (e : Nat × Int) (rest : List (Nat × Int)) :
    (e.1 < 1 ∨ 20 < e.1 ∨ e.1 ∈ good.map (·.1) →
      entriesFault [] 1 (good ++ e :: rest) = some (2 * (good.length + 1) + 1)) ∧
    (1 ≤ e.1 → e.1 ≤ 20 → e.1 ∉ good.map (·.1) → ¬ ZoneEntryOk e →
      entriesFault [] 1 (good ++ e :: rest) = some (2 * (good.length + 1) + 2)) := by
  rw [entriesFault_append apart ok fun _ _ => List.not_mem_nil, Nat.add_comm 1]
  have earlier : e.1 ∈ (good.map (·.1)).reverse ++ [] ↔ e.1 ∈ good.map (·.1) := by simp
  exact ⟨fun bad => entriesFault_identifier (by rwa [earlier]) _ rest,
    fun least greatest fresh bad => entriesFault_value least greatest (mt earlier.mp fresh) bad _ rest⟩

/-! ### Zone 0 -/

/-- Section 7.2: a request whose owner refuses zone 0. -/
theorem serve_zoneZero {kind tag : Byte} {owner : Nat → State → Answer} {s : State} (takes : Takes s kind tag [0])
    (refuses : ∀ u, owner 0 u = badField u 1) :
    serve kind tag [0] (fun p s => withFields (parseNumber 1 p) s fun z => owner z s) s =
      .next (s.popIntake.replied kind tag .badField (putNat 1 1)) :=
  serve_answer (r := 0) takes rfl (refuses s.popIntake)

/-- The kinds of the requests that carry a zone and nothing else. -/
abbrev zoneKinds : List Nat := [0x22, 0x23, 0x24, 0x25, 0x26, 0x27, 0x28, 0x29, 0x2A, 0x39]

theorem zoneZero_refused {c : Instr} {f : Frame} {s : State} (framed : c.frame? = some f) (formed : c.wellFormed = true)
    (kind : f.kind.toNat ∈ zoneKinds) (zero : f.payload = [0]) (takes : Takes s f.kind f.tag f.payload) :
    exec c s = .next (s.popIntake.replied f.kind f.tag .badField (putNat 1 1)) := by
  cases c <;> cases framed
  case zoneStop | zoneSurvey | excludeNight | forceClose | acceptLevel | ackZone | resetZone | zoneRead | zoneProfile |
      unfreeze =>
    cases zero
    exact serve_zoneZero takes fun _ => rfl
  case unknownKind k _ _ =>
    have named : k.toNat ∈ catalogue := (by decide : zoneKinds ⊆ catalogue) kind
    simp [Instr.wellFormed, Instr.kindIsUnknown, named] at formed
  all_goals exact absurd kind (by dsimp only; decide)

/-- Settles O41: each check by itself, after those before it pass. -/
theorem zoneSetRefusals : Obligations.ZoneSetRefusals := by
  unfold Obligations.ZoneSetRefusals
  refine ⟨fun tag n p s small bad => ⟨fun z valid takes => ?_, fun takes => ?_⟩, fun tag z es s zone low high fits takes => ?_,
    fun c f s framed formed kind zero takes => zoneZero_refused framed formed kind zero takes,
    fun tag r s zero first count takes => ?_⟩
  · have count : zoneEntryCountOk n = false := by
      rcases bad with rfl | high
      · rfl
      · simp [zoneEntryCountOk, high]
    exact serve_answer takes (parseZoneSet_badCount (by omega) small bad p)
      (zoneSetAnswer_field (s := s.popIntake) (zoneSetRefusal_count valid count))
  · exact serve_answer takes (parseZoneSet_badCount (by decide) small bad p)
      (zoneSetAnswer_field (s := s.popIntake) (zoneSetRefusal_zone rfl))
  · have parsed := parseZoneSet_put zone low high fits
    have count : zoneEntryCountOk es.length = true := by simp [zoneEntryCountOk, low, high]
    have pass (valid : ZoneValid z) (entriesOk : (es.map (·.1)).Nodup ∧ ∀ e ∈ es, ZoneEntryOk e) :
        (⟨z, es.length, es⟩ : ZoneSetReq).EntriesPass := ⟨valid, count, entriesOk.1, entriesOk.2⟩
    have names {field : Nat} (refusal : zoneSetRefusal ⟨z, es.length, es⟩ s.popIntake = some (.badField, field)) :=
      serve_answer takes parsed (zoneSetAnswer_field refusal)
    refine ⟨fun zero => names (zoneSetRefusal_zone zero), fun valid => ⟨fun good e rest split apart ok => ?_, ?_, ?_, ?_⟩⟩
    · have first := entriesFault_first apart ok e rest
      rw [← split] at first
      exact ⟨fun bad => names (zoneSetRefusal_entry valid count (first.1 bad)),
        fun least greatest fresh bad => names (zoneSetRefusal_entry valid count (first.2 least greatest fresh bad))⟩
    · rintro entriesOk clash before ⟨none, e, rest, split, carries⟩
      exact names (zoneSetRefusal_geometry (s := s.popIntake) (pass valid entriesOk) clash
        (split ▸ valueFieldOf_append none carries rest))
    · rintro entriesOk agree short before ⟨none, e, rest, split, carries⟩
      exact names (zoneSetRefusal_window (s := s.popIntake) (pass valid entriesOk) agree short
        (split ▸ valueFieldOf_append none carries rest))
    · rintro entriesOk agree run lowered armed
      have refusal := (zoneSetRefusal_armed (s := s.popIntake) (pass valid entriesOk) agree run).trans
        (if_pos ⟨lowered, armed⟩)
      refine serve_answer (a := refuse s.popIntake .zoneActive) takes parsed ?_
      rw [zoneSetAnswer, refusal]
  · have parsed := parseHistoryRead_put (r := r) (by omega) first count
    exact serve_answer takes parsed (historyReadAnswer_fault (n := 1) (by rw [historyFault, zero]; rfl) s.popIntake)

/-! ### A message that passes (R44, R127, R133) -/

theorem entryFits_of_ok {e : Nat × Int} (ok : ZoneEntryOk e) : EntryFits e := by
  have nonneg := zoneEntryOk_nonneg ok
  obtain ⟨id, v⟩ := e
  obtain ⟨least, greatest, ⟨lo, hi⟩, range, -, high⟩ := ok
  dsimp only at *
  have small : hi ≤ 20000000 := by interval_cases id <;> cases range <;> decide
  simp only [EntryFits]
  omega

/-- R44, R127, R133, R150: what an accepted ZONE_SET leaves. -/
theorem writeZone_zone (r : ZoneSetReq) (s : State) (j : Nat) :
    (writeZone r s).zone j = if j = r.zone then (s.zone r.zone).takeEntries r.entries else s.zone j := by
  unfold writeZone refreshOnSummary
  split
  · exact State.zone_updZone s r.zone j _
  · rw [refreshGroups_zone, State.zone_updZone]

theorem writeZone_frame (r : ZoneSetReq) (s : State) :
    { writeZone r s with link := s.link, zones := s.zones, groups := s.groups } = s := by
  unfold writeZone refreshOnSummary
  split
  · rfl
  · exact (congrArg (fun v : State => { v with zones := s.zones }) (refreshGroups_frame r.zone _) :)

theorem lookup_of_mem {es : List (Nat × Int)} (apart : (es.map (·.1)).Nodup) {id : Nat} {v : Int} (mem : (id, v) ∈ es) :
    es.lookup id = some v := by
  induction es with
  | nil => cases mem
  | cons e rest ih =>
    obtain ⟨fresh, apart⟩ := List.nodup_cons.mp apart
    rw [lookup_cons_entry]
    rcases List.mem_cons.mp mem with rfl | later
    · exact if_pos rfl
    · have other : id ≠ e.1 := by
        rintro rfl
        exact fresh (List.mem_map_of_mem (f := (·.1)) later)
      rw [if_neg other, ih apart later]

section
variable {es : List (Nat × Int)} (apart : (es.map (·.1)).Nodup) (ok : ∀ e ∈ es, ZoneEntryOk e) (zn : Zone)
include apart ok

theorem Zone.setting_takeEntries (id : Nat) :
    (zn.takeEntries es).setting id =
      if 5 < id ∨ zn.monitor = .standby then (es.lookup id).getD (zn.setting id) else zn.setting id := by
  rw [← Zone.setting_foldl_takeEntry apart ok, Zone.takeEntries_eq]
  rfl

theorem Zone.pendingCopy_takeEntries (id : Nat) :
    (zn.takeEntries es).pendingCopy id =
      if 5 < id ∨ zn.monitor = .standby then zn.pendingCopy id
      else ((es.lookup id).map Int.toNat).or (zn.pendingCopy id) := by
  rw [← Zone.pendingCopy_foldl_takeEntry apart ok, Zone.takeEntries_eq]
  rfl

/-- R127: the hit list after a message, by the confirm window that the message forms. -/
theorem Zone.judge_takeEntries :
    (zn.takeEntries es).judge = { zn.judge with
      hitList :=
        if zn.formed es 12 < zn.setting 12 then zn.judge.hitList.drop (zn.judge.hitList.length - (zn.formed es 12).toNat)
        else zn.judge.hitList } := by
  have window : ((es.foldl Zone.takeEntry zn).params.confirmWindow : Int) = zn.formed es 12 :=
    (Zone.setting_foldl_takeEntry apart ok zn 12).trans (if_pos (.inl (by decide)))
  rw [Zone.takeEntries_eq, ← window, show zn.setting 12 = (zn.params.confirmWindow : Int) from rfl, Int.toNat_natCast]
  simp only [Int.ofNat_lt]

end

/-- R133: the summary after a message, by whether it carries the route mask. -/
theorem Zone.summary_takeEntries (es : List (Nat × Int)) (zn : Zone) :
    (zn.takeEntries es).summary =
      if es.lookup 15 = none then zn.summary else summaryOf (zn.takeEntries es).params.routeMask zn.held := by
  rw [Zone.takeEntries_eq, carried_eq]
  cases es.lookup 15 <;> rfl

/-- Settles O40: the settings by identifier after the entries, one entry at a time. -/
theorem zoneSetStagesGeometry : Obligations.ZoneSetStagesGeometry := by
  unfold Obligations.ZoneSetStagesGeometry
  intro tag z es s valid low high apart ok takes zn formed agree run kept
  have parsed := parseZoneSet_put (z := z) (by omega) low high fun e he => entryFits_of_ok (ok e he)
  have count : zoneEntryCountOk es.length = true := by simp [zoneEntryCountOk, low, high]
  have passes : zoneSetRefusal ⟨z, es.length, es⟩ s.popIntake = none := by
    refine (zoneSetRefusal_armed (r := ⟨z, es.length, es⟩) (s := s.popIntake) ⟨valid, count, apart, ok⟩ agree run).trans
      (if_neg ?_)
    rintro ⟨lowered, armed⟩
    exact absurd (kept armed) (Int.not_le.mpr lowered)
  have work : zoneSetAnswer ⟨z, es.length, es⟩ s.popIntake = okWith (writeZone ⟨z, es.length, es⟩ s.popIntake) [] := by
    rw [zoneSetAnswer, passes]
  obtain ⟨t, served, reply, rest⟩ := serve_done takes parsed work
  have zones (j : Nat) : t.zone j = if j = z then zn.takeEntries es else s.zone j :=
    (congrArg (fun v : State => v.zone j) rest :).trans (writeZone_zone ⟨z, es.length, es⟩ s.popIntake j)
  have here : t.zone z = zn.takeEntries es := (zones z).trans (if_pos rfl)
  have frame : { t with link := s.link, zones := s.zones, groups := s.groups } = s := by
    have written := (congrArg (fun v : State => { v with link := s.link }) (writeZone_frame ⟨z, es.length, es⟩ s.popIntake) :)
    rw [← rest] at written
    exact written
  have setting := Zone.setting_takeEntries apart ok zn
  have copy := Zone.pendingCopy_takeEntries apart ok zn
  refine ⟨t, served, reply, ?_⟩
  rw [here]
  refine ⟨fun id v mem atOnce => ?_, fun id v mem geometry active => ?_, fun id kept => ?_, fun id kept => ?_,
    Zone.judge_takeEntries apart ok zn, Zone.summary_takeEntries es zn, zn.takeEntries_frame es,
    fun j other => (zones j).trans (if_neg other), frame⟩
  · rw [setting, if_pos atOnce, lookup_of_mem apart mem]
    rfl
  · rw [copy, if_neg (not_or.mpr ⟨Nat.not_lt.mpr geometry, active⟩), lookup_of_mem apart mem]
    rfl
  · rw [setting]
    rcases kept with absent | ⟨geometry, active⟩
    · simp [absent]
    · exact if_neg (not_or.mpr ⟨Nat.not_lt.mpr geometry, active⟩)
  · rw [copy]
    rcases kept with absent | atOnce
    · simp [absent]
    · exact if_pos atOnce

end Sys2Proof.Machine
end

section
/-! SUPPORT. R41, R47: the chosen window is the earliest candidate. -/

namespace Sys2Proof.Machine

/-- R47: a start is late enough exactly when the window ends after the clock and does not start before the last one ended. -/
theorem earliestStart_le_iff (n clock : Nat) (last : Option Window) (ws : Nat) :
    earliestStart n clock last ≤ ws ↔ clock < ws + 900 * n ∧ ∀ w ∈ last, w.we ≤ ws := by
  have ended : (last.map (·.we)).getD 0 ≤ ws ↔ ∀ w ∈ last, w.we ≤ ws := by cases last <;> simp
  rw [earliestStart, Nat.max_le, ended, and_comm, slotSeconds]
  exact and_congr_left' (by omega)

/-- R41: the first candidate at or after a start begins at the window start slot of a local day. -/
theorem firstCandidate_spec {slot : Nat} (inDay : slot ≤ 95) (o : Int) (lower : Nat) :
    lower ≤ firstCandidate slot o lower ∧ ((firstCandidate slot o lower : Int) + o) % 86400 = 900 * slot := by
  simp only [firstCandidate, slotSeconds, daySeconds]
  omega

/-- R47: no start between does. -/
theorem firstCandidate_least {slot : Nat} {o : Int} {lower ws : Nat} (late : lower ≤ ws)
    (start : ((ws : Int) + o) % 86400 = 900 * slot) : firstCandidate slot o lower ≤ ws := by
  simp only [firstCandidate, slotSeconds, daySeconds]
  omega

/-- Settles O38. The two bounds on a start are one least start, and days recur every 86,400 seconds. -/
theorem chosenWindowIsEarliest : Obligations.ChosenWindowIsEarliest := by
  unfold Obligations.ChosenWindowIsEarliest
  intro g offset clock last inDay candidate
  obtain ⟨late, start⟩ := firstCandidate_spec inDay offset (earliestStart g.length clock last)
  obtain ⟨ends, after⟩ := (earliestStart_le_iff _ _ _ _).mp late
  exact ⟨⟨start, ends, after⟩, fun ws ⟨start, ends, after⟩ =>
    firstCandidate_least ((earliestStart_le_iff _ _ _ _).mpr ⟨ends, after⟩) start⟩

end Sys2Proof.Machine
end

section
/-! SUPPORT. R39, R49, R50: what a clock mark makes of each zone's night, and the order in which it queues them. -/

namespace Sys2Proof.Machine

/-! ### One night against the clock -/

/-- R49 step 1: the window has ended by this mark. -/
abbrev Night.Due (nt : Night) (time : Nat) : Prop := nt.state = .waiting ∨ (nt.state = .pending ∧ nt.we ≤ time)

/-- R49: the night after a mark, by whether it is fully covered. -/
def Night.marked (time : Nat) (full : Bool) (nt : Night) : Night :=
  if nt.Due time then
    if full = true ∧ (nt.state = .pending ∨ nt.deadline ≤ time) then { nt with state := .queued, cause := some .complete }
    else if nt.deadline ≤ time then { nt with state := .queued, cause := some .deadline }
    else { nt with state := .waiting }
  else nt

/-- R49: the mark queues the zone's night. -/
def Zone.markQueues (time : Nat) (full : Bool) (zn : Zone) : Bool :=
  decide (∃ nt ∈ zn.night, (nt.state = .pending ∨ nt.state = .waiting) ∧ (nt.marked time full).state = .queued)

/-- R49: the zone after a mark. -/
def Zone.marked (time : Nat) (full : Bool) (zn : Zone) : Zone := { zn with night := zn.night.map (Night.marked time full) }

theorem Night.endWindow_due {nt : Night} {time : Nat} (due : nt.Due time) :
    nt.endWindow time = { nt with state := .waiting } := by
  unfold Night.endWindow
  rcases due with waiting | ended
  · rw [if_neg (by simp [waiting]), ← waiting]
  · rw [if_pos ended]

theorem Night.endWindow_idle {nt : Night} {time : Nat} (idle : ¬ nt.Due time) : nt.endWindow time = nt :=
  if_neg fun ended => idle (.inr ended)

theorem Night.Due.isOpen {nt : Night} {time : Nat} (due : nt.Due time) : nt.state = .pending ∨ nt.state = .waiting :=
  due.elim .inr fun ended => .inl ended.1

/-! ### One zone against the clock -/

section
variable {s : State} {z : Nat} {nt : Night} (time : Nat)

/-- R49 step 1: the state in which the mark judges the zone's night. -/
def endZoneWindow (time : Nat) (s : State) (z : Nat) : State :=
  s.updZone z fun zn => { zn with night := zn.night.map fun nt => nt.endWindow time }

theorem endZoneWindow_zone (j : Nat) :
    (endZoneWindow time s z).zone j =
      if j = z then { s.zone z with night := (s.zone z).night.map fun nt => nt.endWindow time } else s.zone j :=
  State.zone_updZone s z j _

theorem endWindow_length (nt : Night) : (nt.endWindow time).length = nt.length := by
  unfold Night.endWindow
  split <;> rfl

theorem fullyCovered_endZoneWindow : fullyCovered (endZoneWindow time s z) z = fullyCovered s z := by
  refine fullyCovered_congr ?_ ?_ fun _ _ => rfl
  · rw [endZoneWindow_zone, if_pos rfl]
  · rw [endZoneWindow_zone, if_pos rfl]
    simp [Function.comp_def, endWindow_length]

theorem markZone_eq :
    markZone time s z =
      if isWaiting (endZoneWindow time s z) z then
        if fullyCovered s z && (windowEnds s z time || deadlineReached (endZoneWindow time s z) z time) then
          queueNight z .complete (endZoneWindow time s z)
        else if deadlineReached (endZoneWindow time s z) z time then queueNight z .deadline (endZoneWindow time s z)
        else endZoneWindow time s z
      else endZoneWindow time s z := by
  rw [← fullyCovered_endZoneWindow time]
  rfl

/-- R49: what a mark does to a zone with a night that it takes on. -/
theorem markZone_due (night : (s.zone z).night = some nt) (due : nt.Due time) :
    markZone time s z =
      if fullyCovered s z = true ∧ (nt.state = .pending ∨ nt.deadline ≤ time) then
        queueNight z .complete (endZoneWindow time s z)
      else if nt.deadline ≤ time then queueNight z .deadline (endZoneWindow time s z)
      else endZoneWindow time s z := by
  have here : ((endZoneWindow time s z).zone z).night = some { nt with state := .waiting } := by
    rw [endZoneWindow_zone, if_pos rfl, night, ← Night.endWindow_due due]
    rfl
  have waits : isWaiting (endZoneWindow time s z) z = true := by simp [isWaiting, here]
  have late : deadlineReached (endZoneWindow time s z) z time = decide (nt.deadline ≤ time) := by simp [deadlineReached, here]
  have ends : windowEnds s z time = decide (nt.state = .pending) := by
    rcases due with waiting | ended
    · simp [windowEnds, night, waiting]
    · simp [windowEnds, night, ended]
  rw [markZone_eq, waits, if_pos rfl, late, ends]
  simp only [Bool.and_eq_true, Bool.or_eq_true, decide_eq_true_eq]

theorem markZone_idle (idle : ∀ nt ∈ (s.zone z).night, ¬ nt.Due time) : markZone time s z = endZoneWindow time s z := by
  have waits : isWaiting (endZoneWindow time s z) z = false := by
    rw [isWaiting, endZoneWindow_zone, if_pos rfl]
    cases night : (s.zone z).night with
    | none => rfl
    | some nt =>
      have idle := idle nt night
      simpa [Night.endWindow_idle idle] using fun waiting => idle (.inl waiting)
  rw [markZone_eq, waits]
  rfl

theorem marked_of_night (night : (s.zone z).night = some nt) (full : Bool) :
    (s.zone z).marked time full = { s.zone z with night := some (nt.marked time full) } := by
  rw [Zone.marked, night]
  rfl

theorem markQueues_of_night (night : (s.zone z).night = some nt) (due : nt.Due time) (full : Bool) :
    (s.zone z).markQueues time full = decide ((nt.marked time full).state = .queued) := by
  simp [Zone.markQueues, night, due.isOpen]

/-- R49: the mark takes no night of the zone on. -/
theorem marked_idle (idle : ∀ nt ∈ (s.zone z).night, ¬ nt.Due time) (full : Bool) :
    (s.zone z).marked time full = s.zone z ∧ (s.zone z).markQueues time full = false := by
  have kept (nt : Night) (night : (s.zone z).night = some nt) : nt.marked time full = nt := if_neg (idle nt night)
  constructor
  · unfold Zone.marked
    cases night : (s.zone z).night with
    | none => rw [Option.map_none, ← night]
    | some nt => rw [Option.map_some, kept nt night, ← night]
  · refine decide_eq_false ?_
    rintro ⟨nt, night, isOpen, queued⟩
    rw [kept nt night] at queued
    simp [queued] at isOpen

/-- R49, R50: the zones and the close queue after a zone is marked. -/
theorem markZone_effect (s : State) (z : Nat) :
    (∀ j, (markZone time s z).zone j = if j = z then (s.zone z).marked time (fullyCovered s z) else s.zone j) ∧
      (markZone time s z).closeQueue =
        s.closeQueue ++ if (s.zone z).markQueues time (fullyCovered s z) then [.zone z] else [] := by
  by_cases idle : ∀ nt ∈ (s.zone z).night, ¬ nt.Due time
  · obtain ⟨same, none⟩ := marked_idle time idle (fullyCovered s z)
    have ended : (s.zone z).night.map (fun nt => nt.endWindow time) = (s.zone z).night := by
      cases night : (s.zone z).night with
      | none => rfl
      | some nt => exact congrArg some (Night.endWindow_idle (idle nt night))
    rw [markZone_idle time idle, same, none]
    refine ⟨fun j => ?_, (List.append_nil _).symm⟩
    rw [endZoneWindow_zone, ended]
  · push Not at idle
    obtain ⟨nt, night, due⟩ := idle
    have ended (j : Nat) : (endZoneWindow time s z).zone j =
        if j = z then { s.zone z with night := some { nt with state := .waiting } } else s.zone j := by
      rw [endZoneWindow_zone, night, ← Night.endWindow_due due]
      rfl
    have queued (cause : CloseCause) (j : Nat) : (queueNight z cause (endZoneWindow time s z)).zone j =
        if j = z then { s.zone z with night := some { nt with state := .queued, cause := some cause } } else s.zone j := by
      rw [queueNight_zone, ended, ended, if_pos rfl]
      split <;> rfl
    rw [markZone_due time night due, marked_of_night time night, markQueues_of_night time night due, Night.marked, if_pos due]
    split
    · exact ⟨queued .complete, rfl⟩
    · split
      · exact ⟨queued .deadline, rfl⟩
      · exact ⟨ended, (List.append_nil _).symm⟩

/-! ### Every zone against the clock -/

/-- R49, R50: zones marked one after another, each by itself. -/
theorem foldl_markZone_effect {zs : List Nat} (apart : zs.Nodup) (s : State) :
    (∀ j, (zs.foldl (markZone time) s).zone j =
        if j ∈ zs then (s.zone j).marked time (fullyCovered s j) else s.zone j) ∧
      (zs.foldl (markZone time) s).closeQueue =
        s.closeQueue ++ (zs.filter fun z => (s.zone z).markQueues time (fullyCovered s z)).map .zone := by
  induction zs generalizing s with
  | nil => simp
  | cons z rest ih =>
    obtain ⟨fresh, apart⟩ := List.nodup_cons.mp apart
    obtain ⟨zones, queue⟩ := ih apart (markZone time s z)
    obtain ⟨zone, tail⟩ := markZone_effect time s z
    have meters : (markZone time s z).meters = s.meters := (congrArg State.meters (markZone_frame time s z) :)
    have others {j : Nat} (mem : j ∈ rest) : (markZone time s z).zone j = s.zone j :=
      (zone j).trans (if_neg fun here : j = z => fresh (here ▸ mem))
    have covered {j : Nat} (mem : j ∈ rest) : fullyCovered (markZone time s z) j = fullyCovered s j :=
      fullyCovered_congr (by rw [others mem]) (by rw [others mem]) fun ch side => by rw [State.meter?, meters]; rfl
    rw [List.foldl_cons]
    refine ⟨fun j => ?_, ?_⟩
    · rw [zones]
      by_cases later : j ∈ rest
      · simp [later, others later, covered later]
      · by_cases here : j = z <;> simp [later, here, zone, fresh]
    · have same : (rest.filter fun j => ((markZone time s z).zone j).markQueues time (fullyCovered (markZone time s z) j)) =
          rest.filter fun j => (s.zone j).markQueues time (fullyCovered s j) :=
        List.filter_congr fun j mem => by rw [others mem, covered mem]
      rw [queue, tail, same, List.filter_cons]
      split <;> simp

end

theorem staleCheck_frame (clock : Nat) (s : State) :
    { staleCheck clock s with meters := s.meters, link := s.link, freeCount := s.freeCount } = s :=
  (congrArg (fun u : State => { u with freeCount := s.freeCount }) (foldl_makeStale_frame (lapsedChannels s clock) s) :)

/-- R16: the stale check leaves the zones and the close queue alone. -/
theorem staleCheck_zones (clock : Nat) (s : State) :
    (∀ z, (staleCheck clock s).zone z = s.zone z) ∧ (staleCheck clock s).closeQueue = s.closeQueue := by
  have frame := staleCheck_frame clock s
  generalize staleCheck clock s = t at frame ⊢
  exact ⟨fun z => (congrArg (fun u : State => u.zone z) frame :), (congrArg State.closeQueue frame :)⟩

/-- R39, R49: what a mark that is taken leaves of the zones and the close queue. -/
theorem takeMark_effect (time : Nat) (s : State) :
    (∀ z, (takeMark time s).zone z = if ZoneValid z then (s.zone z).marked time (fullyCovered s z) else s.zone z) ∧
      (takeMark time s).closeQueue =
        s.closeQueue ++ (zoneNumbers.filter fun z => (s.zone z).markQueues time (fullyCovered s z)).map .zone := by
  obtain ⟨zones, queue⟩ := foldl_markZone_effect time zoneNumbers_nodup { s with clock := some time }
  obtain ⟨sameZones, sameQueue⟩ := staleCheck_zones time (nightTransitions time { s with clock := some time })
  refine ⟨fun z => ?_, ?_⟩
  · rw [takeMark, sameZones, ← if_congr (mem_zoneNumbers (z := z)) rfl rfl]
    exact zones z
  · rw [takeMark, sameQueue]
    exact queue

/-- A state with all that a mark moves put back as `s` has it. -/
def State.unmarked (s t : State) : State :=
  { t with clock := s.clock, zones := s.zones, meters := s.meters, link := s.link, closeQueue := s.closeQueue
           freeCount := s.freeCount }

theorem takeMark_frame (time : Nat) (s : State) :
    s.unmarked (takeMark time s) = s ∧ (takeMark time s).clock = some time := by
  have moved := nightTransitions_frame time { s with clock := some time }
  have checked := staleCheck_frame time (nightTransitions time { s with clock := some time })
  unfold takeMark
  generalize nightTransitions time { s with clock := some time } = u at moved checked ⊢
  generalize staleCheck time u = t at checked ⊢
  have afterCheck : s.unmarked t = s.unmarked u := (congrArg s.unmarked checked :)
  have afterNights : s.unmarked u = s := (congrArg s.unmarked moved :)
  have clock : t.clock = u.clock := (congrArg State.clock checked :)
  exact ⟨afterCheck.trans afterNights, clock.trans (congrArg State.clock moved :)⟩

/-- R39: when a mark is refused. -/
theorem markIsBack_iff (s : State) (time : Nat) : markIsBack s time = true ↔ ∃ c ∈ s.clock, time < c := by
  unfold markIsBack
  cases s.clock <;> simp

/-- Settles O35: every zone by itself, in ascending order, and then the stale check, which moves no night. -/
theorem clockMarkMovesNights : Obligations.ClockMarkMovesNights := by
  unfold Obligations.ClockMarkMovesNights
  refine ⟨fun tag time clock s set back small takes => ?_, fun tag time s small notBack takes => ?_⟩
  · have parsed : parseNumber 4 (putNat 4 time) = some time := parseNumber_putNat (by omega)
    have refused : clockMarkAnswer time s.popIntake = ⟨s.popIntake, .clockBack, clockBody clock 0⟩ := by
      rw [clockMarkAnswer, if_pos ((markIsBack_iff s.popIntake time).mpr ⟨clock, set, back⟩), State.now, State.popIntake_clock, set]
      rfl
    exact serve_answer (owner := clockMarkAnswer) takes parsed refused
  · intro moved queues
    have parsed : parseNumber 4 (putNat 4 time) = some time := parseNumber_putNat small
    obtain ⟨zones, queue⟩ := takeMark_effect time s.popIntake
    obtain ⟨frame, set⟩ := takeMark_frame time s.popIntake
    have taken : ¬ markIsBack s.popIntake time = true := fun back => by
      obtain ⟨c, set, early⟩ := (markIsBack_iff _ _).mp back
      exact absurd (notBack c set) (Nat.not_le.mpr early)
    have answer : clockMarkAnswer time s.popIntake =
        okWith (takeMark time s.popIntake) (clockBody time (zoneNumbers.countP queues)) := by
      rw [clockMarkAnswer, if_neg taken, queue, List.length_append, Nat.add_sub_cancel_left, List.length_map,
        ← List.countP_eq_length_filter]
      rfl
    obtain ⟨t, served, reply, rest⟩ := serve_done (owner := clockMarkAnswer) takes parsed answer
    generalize takeMark time s.popIntake = u at zones queue frame set rest
    have zone (j : Nat) : t.zone j = u.zone j := (congrArg (fun v : State => v.zone j) rest :)
    refine ⟨t, served, reply, (congrArg State.clock rest :).trans set, (congrArg State.closeQueue rest :).trans queue,
      fun z valid => ?_, fun z invalid => ?_, ?_⟩
    · rw [zone, zones, if_pos valid]
      rfl
    · rw [zone, zones, if_neg invalid]
      rfl
    · have unmarked : s.unmarked t = s.unmarked u := (congrArg s.unmarked rest :)
      exact unmarked.trans (congrArg s.unmarked frame :)

end Sys2Proof.Machine
end

section
/-! SUPPORT. R60, R62: the portions of one stream telescope, so a window's slots take its share and lose nothing. -/

namespace Sys2Proof.Machine

/-- R62: each slot ends where the next begins, so the portions telescope. -/
theorem portion_sum_range (volume t₀ t₁ ws n : Nat) :
    (((List.range n).map (portion volume t₀ t₁ ws)).sum : Int) =
      (cumShare volume t₀ t₁ (slotStart ws n) : Int) - cumShare volume t₀ t₁ ws := by
  induction n with
  | zero => simp [slotStart]
  | succ n ih =>
    have next : slotEnd ws n = slotStart ws (n + 1) := rfl
    rw [List.range_succ, List.map_append, List.sum_append, Nat.cast_add, ih, List.map_singleton, List.sum_singleton,
      portion_int, next]
    omega

/-- R60: nothing is shared out before the interval begins. -/
theorem cumShare_before (volume t₁ : Nat) {t₀ x : Nat} (before : x ≤ t₀) : cumShare volume t₀ t₁ x = 0 := by
  have clip : clipTime t₀ t₁ x = 0 := by
    unfold clipTime
    omega
  simp [cumShare, clip]

/-- R60: all of the volume is shared out once the interval has ended. -/
theorem cumShare_after (volume : Nat) {t₀ t₁ x : Nat} (proper : t₀ < t₁) (ended : t₁ ≤ x) :
    cumShare volume t₀ t₁ x = volume := by
  rw [cumShare, clipTime, Nat.min_eq_right ended, Nat.mul_div_cancel _ (Nat.sub_pos_of_lt proper)]

/-- R62: a portion depends on the span of its slot alone, not on the window that the slot is one of. -/
theorem portion_of_span (volume t₀ t₁ : Nat) {ws ws' j j' : Nat} (span : slotStart ws j = slotStart ws' j') :
    portion volume t₀ t₁ ws j = portion volume t₀ t₁ ws' j' := by
  have ends : slotEnd ws j = slotEnd ws' j' := by
    unfold slotStart slotSeconds at span
    unfold slotEnd slotSeconds
    omega
  rw [portion, portion, span, ends]

/-- Settles O33: the portions telescope, and the shares at a window that contains the interval are nothing and all. -/
theorem portionsLoseNothing : Obligations.PortionsLoseNothing := by
  unfold Obligations.PortionsLoseNothing
  intro Δ t₀ t₁ ws n proper share
  have total := portion_sum_range Δ t₀ t₁ ws n
  refine ⟨total, fun begins ends => ?_, fun ws' j j' span => portion_of_span Δ t₀ t₁ span⟩
  rw [cumShare_before Δ t₁ begins, cumShare_after Δ proper (show t₁ ≤ slotStart ws n from ends)] at total
  omega

end Sys2Proof.Machine
end

section
/-! SUPPORT. R69, R86, R136, R150, R178: what a close's completion announces, what it offers to the capture record, and what it
leaves of the cover records of its zone's sides. -/

namespace Sys2Proof.Machine

/-! ### Several notices raised in a row (R177) -/

theorem foldl_raise_frame (news : List Notice) (s : State) : { news.foldl State.raise s with link := s.link } = s := by
  induction news generalizing s with
  | nil => rfl
  | cons n rest ih => exact (congrArg (fun u : State => { u with link := s.link }) (ih (s.raise n)) :)

theorem foldl_raise_meters (news : List Notice) (s : State) : (news.foldl State.raise s).meters = s.meters :=
  (congrArg State.meters (foldl_raise_frame news s) :)

theorem foldl_raise_groups (news : List Notice) (s : State) : (news.foldl State.raise s).groups = s.groups :=
  (congrArg State.groups (foldl_raise_frame news s) :)

theorem foldl_raise_capture (news : List Notice) (s : State) : (news.foldl State.raise s).capture = s.capture :=
  (congrArg State.capture (foldl_raise_frame news s) :)

theorem foldl_raise_groupNotice (news : List Notice) (s : State) :
    groupNotice (news.foldl State.raise s) = groupNotice s :=
  (congrArg groupNotice (foldl_raise_frame news s) :)

/-- R177: raising reads the link alone. -/
theorem foldl_raise_link_congr (news : List Notice) {s t : State} (same : s.link = t.link) :
    (news.foldl State.raise s).link = (news.foldl State.raise t).link := by
  induction news generalizing s t with
  | nil => exact same
  | cons n rest ih =>
    refine ih (s := s.raise n) (t := t.raise n) ?_
    unfold State.raise
    rw [same]

/-- R177: of the link, raising writes the notice queue and the overflow marker alone. -/
theorem foldl_raise_link (news : List Notice) (s : State) :
    (news.foldl State.raise s).link = { s.link with
      notices := (news.foldl State.raise s).link.notices, overflow := (news.foldl State.raise s).link.overflow } := by
  have blind : LinkBlind fun s => news.foldl State.raise s := fun s l =>
    foldl_relinked s l (fun s n => raise_relinked s l n) news
  obtain ⟨notices, overflow, link⟩ := blind.sameLink s
  dsimp only at link
  rw [link]

theorem raiseIf_eq_foldl (s : State) (b : Bool) (n : Notice) :
    s.raiseIf b n = (if b then [n] else []).foldl State.raise s := by
  cases b <;> rfl

theorem raiseGroupChanges_eq_foldl (gs : List Nat) (s : State) :
    raiseGroupChanges gs s = (gs.map (groupNotice s)).foldl State.raise s := by
  unfold raiseGroupChanges
  induction gs generalizing s with
  | nil => rfl
  | cons g rest ih =>
    have notices : groupNotice (s.raise (groupNotice s g)) = groupNotice s := rfl
    rw [List.foldl_cons, ih, notices, List.map_cons, List.foldl_cons]

/-! ### The notices of a change (R150, R178) -/

theorem picksRising_iff (l : LeakNotify) : l.picksRising = true ↔ l = .rising ∨ l = .both := by
  cases l <;> decide

theorem picksFalling_iff (l : LeakNotify) : l.picksFalling = true ↔ l = .falling ∨ l = .both := by
  cases l <;> decide

/-- R178: the model's test of a change is the statement's. -/
theorem changeSelected_eq (p : Params) (before after : MonitorState) :
    changeSelected p before after = picksChange p before after := by
  rw [Bool.eq_iff_iff]
  simp [changeSelected, picksChange, picksRising_iff, picksFalling_iff, or_assoc]

/-- R150: the groups of a zone found changed, with the notices of their new values. -/
theorem changedGroups_news {s t w : State} {z : Nat} (same : ∀ g, w.group g = s.group g)
    (after : ∀ g, t.group g = (recomputeGroups z w).group g) :
    (changedGroups z w).map (groupNotice (recomputeGroups z w)) = groupNews s t z := by
  have selects (g : Nat) (known : g ∈ groupNumbers) :
      (groupChanges w (w.group g) && (w.group g).members.contains z) = decide (z ∈ (s.group g).members ∧
        (((s.group g).leakEnable = true ∧ (t.group g).leakValue ≠ (s.group g).leakValue) ∨
          ((s.group g).integEnable = true ∧ (t.group g).integValue ≠ (s.group g).integValue))) := by
    by_cases member : z ∈ (s.group g).members
    · have listed : g ∈ groupsOf w z := by simp [groupsOf, known, same, member]
      have formed : t.group g = (s.group g).recomputed w := by
        rw [after, recomputeGroups, foldGroups_group, if_pos listed, same]
      rw [Bool.eq_iff_iff]
      simp [groupChanges, same, formed, Group.recomputed, member]
    · simp [same, member]
  have notice (g : Nat) : groupNotice (recomputeGroups z w) g = .groupChange g (t.group g).leakValue (t.group g).integValue
      (t.group g).leakEnable (t.group g).integEnable := by
    rw [groupNotice, after]
  rw [changedGroups, groupsOf, List.filter_filter, List.filter_congr selects]
  exact List.map_congr_left fun g _ => notice g

/-- R86, R178: what a completion raises before the changes of groups. -/
def closeNews (c : CloseItem) (before judged after : MonitorState) (valid : Bool) (newly : CauseSet) : List Notice :=
  (if c.captured.notifyClosed then [.nightClosed c.zone c.night.label c.night.cause after valid] else []) ++
  (if picksChange c.captured before judged || picksChange c.captured judged after then [.zoneState c.zone before after]
    else []) ++
  (if newly = CauseSet.none then [] else [.causeHeld c.zone newly])

/-- R86: stage 8 raises its notices in order, and does nothing else. -/
theorem stageNotices_eq (c : CloseItem) (f : Figures) (v : Verdict) (before : MonitorState) (newly : CauseSet)
    (changed : List Nat) (s : State) :
    stageNotices c f v before newly changed s =
      (closeNews c before v.monitor (s.zone c.zone).monitor f.run.valid newly ++ changed.map (groupNotice s)).foldl
        State.raise s := by
  have causes : (if decide (newly ≠ CauseSet.none) = true then [Notice.causeHeld c.zone newly] else []) =
      if newly = CauseSet.none then [] else [Notice.causeHeld c.zone newly] := by
    by_cases none : newly = CauseSet.none <;> simp [none]
  unfold stageNotices completionSelects closeNews
  simp only [raiseIf_eq_foldl, raiseGroupChanges_eq_foldl, foldl_raise_groupNotice, ← List.foldl_append, causes,
    changeSelected_eq, List.append_assoc]

/-! ### The capture record (R136) -/

/-- R136: the capture record after the offer of several causes of one zone at one time. -/
def capturedAfter (z now : Nat) (causes : List Cause) (held : Option Capture) : Option Capture :=
  match causes, held with
  | [], held => held
  | _ :: _, some cap => some { cap with later := true }
  | first :: rest, none => some ⟨.zoneCause first, none, some z, now, decide (rest ≠ [])⟩

theorem foldl_offer_capture (z : Nat) (causes : List Cause) (s : State) :
    (causes.foldl (fun s c => s.offerFault (.zoneCause c) none (some z) s.now) s).capture =
      capturedAfter z s.now causes s.capture := by
  induction causes generalizing s with
  | nil => rfl
  | cons first rest ih =>
    rw [List.foldl_cons, ih, State.offerFault_now, State.offerFault_capture]
    cases rest <;> cases s.capture <;> rfl

theorem offerCauses_capture (z : Nat) (causes : CauseSet) (s : State) :
    (offerCauses z causes s).capture = capturedAfter z s.now causes.toList s.capture :=
  foldl_offer_capture z causes.toList s

/-- R136: offers write the capture record alone. -/
theorem offerCauses_frame (z : Nat) (causes : CauseSet) (s : State) :
    { offerCauses z causes s with capture := s.capture } = s := by
  unfold offerCauses
  induction causes.toList generalizing s with
  | nil => rfl
  | cons c rest ih =>
    exact (congrArg (fun u : State => { u with capture := s.capture }) (ih (s.offerFault (.zoneCause c) none (some z) s.now)) :)

theorem offerCauses_link (z : Nat) (causes : CauseSet) (s : State) : (offerCauses z causes s).link = s.link :=
  (congrArg State.link (offerCauses_frame z causes s) :)

theorem offerCauses_meters (z : Nat) (causes : CauseSet) (s : State) : (offerCauses z causes s).meters = s.meters :=
  (congrArg State.meters (offerCauses_frame z causes s) :)

theorem offerCauses_groups (z : Nat) (causes : CauseSet) (s : State) : (offerCauses z causes s).groups = s.groups :=
  (congrArg State.groups (offerCauses_frame z causes s) :)

/-! ### Recomputed groups (R150) -/

theorem recomputeGroups_link (z : Nat) (s : State) : (recomputeGroups z s).link = s.link :=
  (congrArg State.link (foldGroups_frame (groupsOf s z) s) :)

theorem recomputeGroups_meters (z : Nat) (s : State) : (recomputeGroups z s).meters = s.meters :=
  (congrArg State.meters (foldGroups_frame (groupsOf s z) s) :)

theorem recomputeGroups_capture (z : Nat) (s : State) : (recomputeGroups z s).capture = s.capture :=
  (congrArg State.capture (foldGroups_frame (groupsOf s z) s) :)

/-! ### What the turn to the next night leaves alone -/

/-- A change of zones, meters and engine at most. -/
structure NightWork (s t : State) : Prop where
  frame : { t with zones := s.zones, meters := s.meters, engine := s.engine } = s

namespace NightWork

theorem refl (s : State) : NightWork s s := ⟨rfl⟩

theorem trans {s t u : State} (h : NightWork s t) (k : NightWork t u) : NightWork s u :=
  ⟨(congrArg (fun v : State => { v with zones := s.zones, meters := s.meters, engine := s.engine }) k.frame).trans h.frame⟩

theorem updZone (s : State) (z : Nat) (f : Zone → Zone) : NightWork s (s.updZone z f) := ⟨rfl⟩

theorem updAttachedCovers (s : State) (z : Nat) (f : Cover → Cover) : NightWork s (s.updAttachedCovers z f) :=
  ⟨(congrArg (fun v : State => { v with zones := s.zones, engine := s.engine }) (updAttachedCovers_frame s z f) :)⟩

theorem idle (s : State) : NightWork s { s with engine := none } := ⟨rfl⟩

theorem freeNight (z : Nat) (s : State) : NightWork s (freeNight z s) := (updZone s z _).trans (updAttachedCovers _ z _)

theorem stageNext (c : CloseItem) (s : State) : NightWork s (stageNext c s) := by
  unfold Machine.stageNext
  split
  · exact (updZone s c.zone _).trans (updAttachedCovers _ c.zone _)
  · exact refl s

theorem link {s t : State} (h : NightWork s t) : t.link = s.link := (congrArg State.link h.frame :)
theorem groups {s t : State} (h : NightWork s t) : t.groups = s.groups := (congrArg State.groups h.frame :)
theorem capture {s t : State} (h : NightWork s t) : t.capture = s.capture := (congrArg State.capture h.frame :)

end NightWork

/-! ### The stages of a completion, field by field -/

section
variable (c : CloseItem) (s : State)

/-- R131, R132: the causes that the close newly holds. -/
def closeNewly : CauseSet :=
  newlyHeld (s.zone c.zone) ((s.zone c.zone).evaluate c.night c.captured (figuresOf s c.zone c.night c.captured))

theorem closeWritten_link : (closeWritten c s).link = s.link := by
  simp [closeWritten, stageHistory, stagePublish, stageJudge, stageCauses, offerCauses_link]

theorem closeWritten_meters : (closeWritten c s).meters = s.meters := by
  simp [closeWritten, stageHistory, stagePublish, stageJudge, stageCauses, offerCauses_meters]

theorem closeWritten_groups : (closeWritten c s).groups = s.groups := by
  simp [closeWritten, stageHistory, stagePublish, stageJudge, stageCauses, offerCauses_groups]

theorem closeWritten_capture :
    (closeWritten c s).capture = capturedAfter c.zone s.now (closeNewly c s).toList s.capture := by
  simp only [closeWritten, stageHistory, stagePublish, stageJudge, stageCauses, State.updZone_capture, offerCauses_capture,
    State.setZone_now, State.setZone_capture]
  rfl

/-- R86, R150: all that a completion raises, in its order. -/
def closeAllNews : List Notice :=
  closeNews c (s.zone c.zone).monitor (closeVerdict c s).monitor ((closeWritten c s).zone c.zone).monitor
      (figuresOf s c.zone c.night c.captured).run.valid (closeNewly c s) ++
    (changedGroups c.zone (closeWritten c s)).map (groupNotice (recomputeGroups c.zone (closeWritten c s)))

theorem closeAnnounced_eq :
    closeAnnounced c s = (closeAllNews c s).foldl State.raise (recomputeGroups c.zone (closeWritten c s)) := by
  rw [closeAnnounced, stageNotices_eq, recomputeGroups_zone, stageCauses_zone, if_pos rfl]
  rfl

theorem closeAnnounced_meters : (closeAnnounced c s).meters = s.meters := by
  rw [closeAnnounced_eq, foldl_raise_meters, recomputeGroups_meters, closeWritten_meters]

theorem closeAnnounced_capture : (closeAnnounced c s).capture = (closeWritten c s).capture := by
  rw [closeAnnounced_eq, foldl_raise_capture, recomputeGroups_capture]

theorem closeAnnounced_groups : (closeAnnounced c s).groups = (recomputeGroups c.zone (closeWritten c s)).groups := by
  rw [closeAnnounced_eq, foldl_raise_groups]

theorem closeAnnounced_link : (closeAnnounced c s).link = ((closeAllNews c s).foldl State.raise s).link := by
  have same : (recomputeGroups c.zone (closeWritten c s)).link = s.link := by
    rw [recomputeGroups_link, closeWritten_link]
  rw [closeAnnounced_eq, foldl_raise_link_congr _ same]

theorem closeAnnounced_attach (z : Nat) : ((closeAnnounced c s).zone z).attach = (s.zone z).attach :=
  ((((((Steady.stageCauses c _ s).trans (.stageJudge c _ _)).trans (.stagePublish c _ _ _)).trans
    (.stageHistory c _ _ _)).trans (.recomputeGroups _ _)).trans (.stageNotices c _ _ _ _ _ _)).attach z

/-! ### The turn to the next night (R69, R87) -/

/-- R87: stages 9 and 10 write zones and meters alone. -/
theorem turnOver_work : NightWork s (stageNext c (stageFree c s)) :=
  have freed : NightWork s (stageFree c s) := (NightWork.freeNight c.zone s).trans (.updZone _ _ _)
  freed.trans (.stageNext c _)

/-- R69: what a completion makes of a cover record: emptied where the next night is created, otherwise cleared. -/
def coverLeft (monitored : Bool) (cv : Cover) : Cover := if monitored then Cover.empty else cv.clearNight

theorem turnOver_meter {c : CloseItem} {s : State} (list : ListOk (s.zone c.zone).attach) (ch : Nat) :
    (stageNext c (stageFree c s)).meter? ch = (s.meter? ch).map fun m =>
      let left := coverLeft (s.zone c.zone).monitor.monitored
      { m with
        fromCover := if ⟨ch, .fromSide⟩ ∈ (s.zone c.zone).attach then m.fromCover.map left else m.fromCover
        toCover := if ⟨ch, .toSide⟩ ∈ (s.zone c.zone).attach then m.toCover.map left else m.toCover } := by
  have freed : (stageFree c s).zone c.zone =
      { s.zone c.zone with night := none, lastClosed := some ⟨c.night.ws, c.night.we⟩ } := by
    rw [stageFree, State.zone_updZone_self, freeNight_zone, if_pos rfl]
  have cleared : (stageFree c s).meter? ch = (freeNight c.zone s).meter? ch := by rw [stageFree, State.updZone_meter]
  have emptied (p : Prop) [Decidable p] (cover : Option Cover) :
      (if p then (if p then cover.map Cover.clearNight else cover).map (fun _ => Cover.empty)
        else (if p then cover.map Cover.clearNight else cover)) = if p then cover.map (fun _ => Cover.empty) else cover := by
    split <;> simp [Function.comp_def]
  unfold stageNext
  rw [freed]
  cases monitored : (s.zone c.zone).monitor.monitored with
  | false =>
    rw [if_neg (by simp), cleared, freeNight_meter list]
    rfl
  | true =>
    have listed : ListOk ((stageFree c s).zone c.zone).attach := by rw [freed]; exact list
    rw [if_pos rfl, createNight_meter listed, cleared, freeNight_meter list, freed, Option.map_map]
    simp only [Function.comp_def, emptied]
    rfl

end

/-! ### The completion -/

theorem Zone.turnOver_monitor (zn : Zone) (c : CloseItem) (offset : Int) (now : Nat) :
    (zn.turnOver c offset now).monitor = zn.monitor := by
  unfold Zone.turnOver
  dsimp only
  split <;> rfl

theorem Zone.turnOver_held (zn : Zone) (c : CloseItem) (offset : Int) (now : Nat) :
    (zn.turnOver c offset now).held = zn.held := by
  unfold Zone.turnOver
  dsimp only
  split <;> rfl

theorem Zone.settle_held (zn : Zone) (v : Verdict) (survey : Bool) : (zn.settle v survey).held = zn.held := by
  unfold Zone.settle
  dsimp only
  split <;> rfl

theorem Zone.record_held (zn : Zone) (r : NightRecord) (freeze : Bool) : (zn.record r freeze).held = zn.held := by
  unfold Zone.record
  dsimp only
  split
  · rfl
  · split <;> rfl

/-- R132: after stage 3, nothing of a completion writes the held causes. -/
theorem Zone.closed_held (zn : Zone) (c : CloseItem) (f : Figures) (v : Verdict) (now : Nat) :
    (zn.closed c f v now).held = (zn.evaluate c.night c.captured f).held := by
  unfold Zone.closed
  dsimp only
  rw [Zone.record_held, Zone.settle_held]

section
variable {c : CloseItem} {s : State} (unvoided : c.void = false)
include unvoided

theorem completeClose_monitor :
    ((completeClose c s).zone c.zone).monitor = ((closeWritten c s).zone c.zone).monitor := by
  rw [completeClose_zone unvoided, closeWritten_zone, if_pos rfl, if_pos rfl, Zone.turnOver_monitor]

theorem completeClose_newly :
    ((completeClose c s).zone c.zone).held.diff (s.zone c.zone).held = closeNewly c s := by
  rw [completeClose_zone unvoided, if_pos rfl, Zone.turnOver_held, Zone.closed_held]
  rfl

/-- R81: once the notices are raised, a completion writes zones, meters and engine alone. -/
theorem completeClose_work : NightWork (closeAnnounced c s) (completeClose c s) := by
  rw [completeClose_stages unvoided]
  exact (turnOver_work c (closeAnnounced c s)).trans (.idle _)

/-- R149: the turn to the next night leaves the groups as stage 7 formed them. -/
theorem completeClose_group (g : Nat) :
    (completeClose c s).group g = (recomputeGroups c.zone (closeWritten c s)).group g := by
  rw [State.group, (completeClose_work unvoided).groups, closeAnnounced_groups, State.group]

theorem completeClose_link : (completeClose c s).link = ((closeAllNews c s).foldl State.raise s).link := by
  rw [(completeClose_work unvoided).link, closeAnnounced_link]

theorem completeClose_capture :
    (completeClose c s).capture = capturedAfter c.zone s.now (closeNewly c s).toList s.capture := by
  rw [(completeClose_work unvoided).capture, closeAnnounced_capture, closeWritten_capture]

theorem completeClose_meter (list : ListOk (s.zone c.zone).attach) (ch : Nat) :
    (completeClose c s).meter? ch = (s.meter? ch).map fun m =>
      let left := coverLeft ((completeClose c s).zone c.zone).monitor.monitored
      { m with
        fromCover := if ⟨ch, .fromSide⟩ ∈ (s.zone c.zone).attach then m.fromCover.map left else m.fromCover
        toCover := if ⟨ch, .toSide⟩ ∈ (s.zone c.zone).attach then m.toCover.map left else m.toCover } := by
  have attach := closeAnnounced_attach c s c.zone
  have meter : (closeAnnounced c s).meter? ch = s.meter? ch := by rw [State.meter?, closeAnnounced_meters, State.meter?]
  have monitor : ((closeAnnounced c s).zone c.zone).monitor = ((completeClose c s).zone c.zone).monitor := by
    rw [completeClose_monitor unvoided, closeAnnounced, stageNotices_zone, recomputeGroups_zone]
  have turned := turnOver_meter (c := c) (attach ▸ list) ch
  rw [attach, meter, monitor] at turned
  have idle (u : State) : ({ u with engine := none } : State).meter? ch = u.meter? ch := rfl
  have stages := congrArg (fun u : State => u.meter? ch) (completeClose_stages unvoided s)
  exact stages.trans ((idle _).trans turned)

/-- R87, R107: after a completion the zone is in STANDBY, or monitored. -/
theorem completeClose_monitored (ok : CloseOk s) (service : s.engine = some (.close c)) :
    ((completeClose c s).zone c.zone).monitor.monitored = decide (((completeClose c s).zone c.zone).monitor ≠ .standby) := by
  obtain ⟨-, ⟨-, -, held⟩, life, -⟩ := ok
  have night : (s.zone c.zone).night = some c.night := held c service unvoided
  have here := (completeClose_zone unvoided s c.zone).trans (if_pos rfl)
  obtain ⟨-, ⟨-, standby⟩ | ⟨nt, -, -, -, -, monitored⟩⟩ :=
    turnOver_cases (life c.zone) night (closeVerdict_monitor c s) (figuresOf s c.zone c.night c.captured) s.settings.offset s.now
  · rw [here, standby]
    rfl
  · rw [← here] at monitored
    have active : ((completeClose c s).zone c.zone).monitor ≠ .standby := fun standby => by
      rw [standby] at monitored
      cases monitored
    rw [monitored, decide_eq_true active]

end

/-- Settles O50: the notices by stages 7 and 8, the capture record by stage 3, the cover records by stages 9 and 10. -/
theorem closeCompletionRaisesNotices : Obligations.CloseCompletionRaisesNotices := by
  unfold Obligations.CloseCompletionRaisesNotices
  intro c s runs service unvoided ok list zn f dark v
  have completes : exec .closeCompletion s = .next (completeClose c s) := by
    rw [exec_closeCompletion runs, closeInService_some.mpr service]
    rfl
  refine ⟨_, completes, ?_⟩
  intro after newly news
  have newlyHeld : newly = closeNewly c s := completeClose_newly unvoided
  have announced : news = closeAllNews c s := by
    have unwritten (g : Nat) : (closeWritten c s).group g = s.group g := by
      rw [State.group, closeWritten_groups, State.group]
    have groups := changedGroups_news unwritten (completeClose_group unvoided)
    have monitor : after = ((closeWritten c s).zone c.zone).monitor := completeClose_monitor unvoided
    rw [closeAllNews, groups, ← newlyHeld, ← monitor]
    rfl
  refine ⟨?_, ?_, fun ch => ?_⟩
  · rw [completeClose_link unvoided, announced]
    exact foldl_raise_link _ _
  · rw [completeClose_capture unvoided, newlyHeld]
    rfl
  · have monitored : after.monitored = decide (after ≠ .standby) := completeClose_monitored unvoided ok service
    have left : coverLeft after.monitored = fun cv =>
        if after = .standby then { cv with mask := 0, faulted := false } else Cover.empty := by
      funext cv
      rw [monitored, coverLeft]
      by_cases standby : after = .standby
      · rw [if_neg (by simp [standby]), if_pos standby]
        rfl
      · rw [if_pos (decide_eq_true standby), if_neg standby]
    rw [completeClose_meter unvoided list, left]

end Sys2Proof.Machine
end

section
/-! SUPPORT. R79, R81, R175, R183, R184: a request that is not taken and an engine event that does not occur change nothing. -/

namespace Sys2Proof.Machine

/-! ### Requests -/

/-- R175: a request is served under its own frame; an UNKNOWN_KIND whose kind names a message does not occur (log 3). -/
theorem exec_serves {c : Instr} {f : Frame} (framed : c.frame? = some f) (s : State) :
    exec c s = .next s ∨ ∃ owner, exec c s = serve f.kind f.tag f.payload owner s := by
  cases c <;> cases framed
  case unknownKind kind tag payload =>
    by_cases known : catalogue.contains kind.toNat = true
    · exact .inl (if_pos known)
    · exact .inr ⟨_, if_neg known⟩
  all_goals
    dsimp only [exec]
    exact .inr ⟨_, rfl⟩

/-- R175, log 2: a request that is not taken changes nothing. -/
theorem exec_untaken {c : Instr} {f : Frame} {s : State} (framed : c.frame? = some f)
    (untaken : ¬ Takes s f.kind f.tag f.payload) : exec c s = .next s := by
  rcases exec_serves framed s with absent | ⟨owner, served⟩
  · exact absent
  · rw [served, serve_held owner untaken]

/-! ### Engine events -/

section
variable {c : Instr} {s : State}

theorem running_eq_false (held : ¬ Runs s) : s.running = false := by
  simpa [State.running] using held

/-- The four events of the Close Engine (R79, R81). -/
def engineCommands : List Instr := [.closeStart, .testRunStart, .closeCompletion, .testRunCompletion]

/-- R183, R184: no engine event occurs while a RESTART waits or the part is not ready. -/
theorem exec_engine_held (event : c ∈ engineCommands) (held : ¬ Runs s) : exec c s = .next s := by
  have stopped : ¬ s.running = true := by simp [running_eq_false held]
  simp only [engineCommands, List.mem_cons, List.not_mem_nil, or_false] at event
  rcases event with rfl | rfl | rfl | rfl <;> exact if_neg stopped

/-- An engine event that finds nothing to do changes nothing, whether or not the part runs. -/
theorem exec_engine_idle (event : c ∈ engineCommands) (idle : Runs s → exec c s = .next s) : exec c s = .next s := by
  by_cases runs : Runs s
  · exact idle runs
  · exact exec_engine_held event runs

theorem closeReady_none (idle : s.engine ≠ none ∨ s.closeQueue = []) : closeReady s = none := by
  refine Option.eq_none_iff_forall_ne_some.mpr fun ⟨z, nt⟩ ready => ?_
  obtain ⟨engine, rest, queue, -⟩ := closeReady_some ready
  simp [engine, queue] at idle

theorem testReady_none (idle : s.engine ≠ none ∨ s.closeQueue = []) : testReady s = none := by
  refine Option.eq_none_iff_forall_ne_some.mpr fun test ready => ?_
  obtain ⟨engine, rest, queue, -⟩ := testReady_some ready
  simp [engine, queue] at idle

/-- R79: no start where an item is in service or nothing is queued. -/
theorem exec_starts_idle (idle : s.engine ≠ none ∨ s.closeQueue = []) :
    exec .closeStart s = .next s ∧ exec .testRunStart s = .next s := by
  refine ⟨exec_engine_idle (by decide) fun runs => ?_, exec_engine_idle (by decide) fun runs => ?_⟩
  · rw [exec_closeStart runs, closeReady_none idle]
    rfl
  · rw [exec_testRunStart runs, testReady_none idle]
    rfl

/-- R81: no completion where no item is in service. -/
theorem exec_completions_idle (idle : s.engine = none) :
    exec .closeCompletion s = .next s ∧ exec .testRunCompletion s = .next s := by
  refine ⟨exec_engine_idle (by decide) fun runs => ?_, exec_engine_idle (by decide) fun runs => ?_⟩
  · rw [exec_closeCompletion runs, closeInService_none (by simp [idle])]
    rfl
  · rw [exec_testRunCompletion runs, testInService_none (by simp [idle])]
    rfl

end

/-- Settles O7: a request by what taking it asks, an engine event by what its occurring asks. -/
theorem nothingIsTakenWhileHeld : Obligations.NothingIsTakenWhileHeld := by
  unfold Obligations.NothingIsTakenWhileHeld
  refine ⟨fun c s held command => ?_, fun s => exec_starts_idle, fun s => exec_completions_idle, fun s settled => ?_,
    fun c f g s framed head other => ?_⟩
  · have halted : ¬ Runs s := by
      rintro ⟨ready, unheld⟩
      simp [ready, unheld] at held
    rcases command with request | rfl | rfl | rfl | rfl | ⟨unready, bytes, rfl⟩
    · obtain ⟨f, framed⟩ := Option.isSome_iff_exists.mp request
      exact exec_untaken framed fun ⟨ready, unheld, _⟩ => halted ⟨ready, unheld⟩
    · exact exec_engine_held (by decide) halted
    · exact exec_engine_held (by decide) halted
    · exact exec_engine_held (by decide) halted
    · exact exec_engine_held (by decide) halted
    · exact if_neg unready
  · show execRestartTakesEffect s = .next s
    rw [execRestartTakesEffect, settled]
  · refine exec_untaken framed fun ⟨_, _, place⟩ => ?_
    rcases place with empty | first
    · simp [empty] at head
    · exact other (Option.some.inj (head.symm.trans first))

end Sys2Proof.Machine
end

section
/-! SUPPORT. R79, R80, R88, R164, R168: the starts, and what a test run finds. -/

namespace Sys2Proof.Machine

/-! ### What the engine finds to do (R75, R79) -/

section
variable {s : State}

theorem closeReady_of_head {z : Nat} {rest : List QueueEntry} {nt : Night} (idle : s.engine = none)
    (queue : s.closeQueue = .zone z :: rest) (night : (s.zone z).night = some nt) : closeReady s = some (z, nt) := by
  simp [closeReady, idle, queue, night]

theorem testReady_of_head {n : Nat} {rest : List QueueEntry} (idle : s.engine = none) (queue : s.closeQueue = .test :: rest)
    (request : s.test.request = .queued n) : testReady s = some n := by
  simp [testReady, idle, queue, request]

theorem testInService_of_running {n : Nat} (engine : s.engine = some .testRun) (request : s.test.request = .running n) :
    testInService s = some n := by
  simp [testInService, engine, request]

/-- R81: the completion of the close in service. -/
theorem exec_closeCompletion_of_service {c : CloseItem} (runs : Runs s) (service : s.engine = some (.close c)) :
    exec .closeCompletion s = .next (completeClose c s) := by
  rw [exec_closeCompletion runs, closeInService_some.mpr service]
  rfl

/-- R88, R164: the completion of the test run in service. -/
theorem exec_testRunCompletion_of_running {n : Nat} (runs : Runs s) (engine : s.engine = some .testRun)
    (request : s.test.request = .running n) : exec .testRunCompletion s = .next (completeTest n s) := by
  rw [exec_testRunCompletion runs, testInService_of_running engine request]
  rfl

end

/-- Settles O47: the entry at the head is the one that starts. -/
theorem startsTakeTheHead : Obligations.StartsTakeTheHead := by
  unfold Obligations.StartsTakeTheHead
  refine ⟨fun z rest nt s runs idle queue night => ?_, fun n rest s runs idle queue request => ?_⟩
  · have tail : s.closeQueue.tail = rest := by rw [queue, List.tail_cons]
    rw [exec_closeStart runs, closeReady_of_head idle queue night, ← tail]
    rfl
  · have tail : s.closeQueue.tail = rest := by rw [queue, List.tail_cons]
    rw [exec_testRunStart runs, testReady_of_head idle queue request, ← tail]
    rfl

/-! ### Tests 1 to 4: the reference cases (R165 to R167) -/

theorem failingCase_apportion : failingCase 1 = none := by decide
theorem failingCase_runMin : failingCase 2 = none := by decide
theorem failingCase_baseline : failingCase 3 = none := by decide
theorem failingCase_judge : failingCase 4 = none := by decide

/-- R165 to R167, log 18: the model's arithmetic agrees with every reference case. -/
theorem failingCase_none {n : Nat} (first : 1 ≤ n) (last : n ≤ 4) : failingCase n = none := by
  obtain rfl | rfl | rfl | rfl : n = 1 ∨ n = 2 ∨ n = 3 ∨ n = 4 := by omega
  · exact failingCase_apportion
  · exact failingCase_runMin
  · exact failingCase_baseline
  · exact failingCase_judge

/-- R164: a test without a failing case or a failing meter passes. -/
theorem outcomeOf_pass {n : Nat} {s : State} (agrees : failingCase n = none) (unaudited : failingMeter n s = none) :
    outcomeOf n s = .pass := by
  simp [outcomeOf, agrees, unaudited]

/-! ### Test 5: AUDIT (R168) -/

/-- R168: every meter that a list names and that has a record is LIVE. -/
abbrev AllLive (s : State) (l : List Attachment) : Prop :=
  ∀ e ∈ l, ∀ m, s.meter? e.channel = some m → m.state = .live

/-- R168: a zone that an AUDIT examines. -/
abbrev Examined (s : State) (z : Nat) : Prop := ZoneValid z ∧ (s.zone z).monitor ≠ .standby

/-- R168: what a finding in a zone's list says: the first listed meter that is not LIVE, by serial and channel. -/
abbrev FirstNotLive (s : State) (l : List Attachment) (a : AuditFinding) : Prop :=
  ∃ before e rest m, l = before ++ e :: rest ∧ AllLive s before ∧ s.meter? e.channel = some m ∧ m.state ≠ .live ∧
    a.channel = e.channel ∧ a.serial = m.serial

section
variable {s : State} {z : Nat}

theorem allLive_cons {e : Attachment} {rest : List Attachment} :
    AllLive s (e :: rest) ↔ (∀ m, s.meter? e.channel = some m → m.state = .live) ∧ AllLive s rest :=
  List.forall_mem_cons

/-- R168: an entry whose meter is LIVE, or has no record (log 15), is passed over. -/
theorem auditList_cons_live {e : Attachment} (live : ∀ m, s.meter? e.channel = some m → m.state = .live)
    (rest : List Attachment) : auditList s z (e :: rest) = auditList s z rest := by
  rw [auditList]
  cases record : s.meter? e.channel with
  | none => rfl
  | some m => exact if_pos (live m record)

theorem auditList_cons_found {e : Attachment} {m : Meter} (record : s.meter? e.channel = some m) (fails : m.state ≠ .live)
    (rest : List Attachment) : auditList s z (e :: rest) = some ⟨z, m.serial, e.channel⟩ := by
  rw [auditList, record]
  exact if_neg fails

/-- R168: what the audit of one list answers. -/
theorem auditList_cases (s : State) (z : Nat) (l : List Attachment) :
    (AllLive s l ∧ auditList s z l = none) ∨
      ∃ a, ¬ AllLive s l ∧ auditList s z l = some a ∧ a.zone = z ∧ FirstNotLive s l a := by
  induction l with
  | nil => exact .inl ⟨List.forall_mem_nil _, rfl⟩
  | cons e rest ih =>
    by_cases live : ∀ m, s.meter? e.channel = some m → m.state = .live
    · rw [auditList_cons_live live, allLive_cons]
      rcases ih with ⟨all, nothing⟩ | ⟨a, stale, found, zone, before, e', rest', m, split, passes, finding⟩
      · exact .inl ⟨⟨live, all⟩, nothing⟩
      · exact .inr ⟨a, fun all => stale all.2, found, zone, e :: before, e', rest', m, by rw [split, List.cons_append],
          allLive_cons.mpr ⟨live, passes⟩, finding⟩
    · have ⟨m, h⟩ := not_forall.mp live
      obtain ⟨record, fails⟩ := Classical.not_imp.mp h
      exact .inr ⟨_, fun all => live (allLive_cons.mp all).1, auditList_cons_found record fails rest, rfl,
        [], e, rest, m, rfl, List.forall_mem_nil _, record, fails, rfl, rfl⟩

theorem auditList_none_iff {l : List Attachment} : auditList s z l = none ↔ AllLive s l := by
  rcases auditList_cases s z l with ⟨all, nothing⟩ | ⟨a, stale, found, -⟩
  · exact ⟨fun _ => all, fun _ => nothing⟩
  · simp [found, stale]

theorem auditZone_none_iff : auditZone s z = none ↔ ((s.zone z).monitor ≠ .standby → AllLive s (s.zone z).attach) := by
  unfold auditZone
  split
  · next standby => simp [standby]
  · next active => rw [auditList_none_iff, forall_prop_of_true active]

theorem auditZone_some {a : AuditFinding} (found : auditZone s z = some a) :
    (s.zone z).monitor ≠ .standby ∧ a.zone = z ∧ FirstNotLive s (s.zone z).attach a := by
  unfold auditZone at found
  split at found
  · cases found
  · next active =>
    rcases auditList_cases s z (s.zone z).attach with ⟨-, nothing⟩ | ⟨b, -, here, zone, first⟩
    · cases nothing.symm.trans found
    · cases here.symm.trans found
      exact ⟨active, zone, first⟩

/-- R168: an AUDIT finds nothing exactly where every listed meter of every examined zone is LIVE. -/
theorem audit_none_iff : audit s = none ↔ ∀ z, Examined s z → AllLive s (s.zone z).attach := by
  rw [audit, List.findSome?_eq_none_iff]
  exact ⟨fun nothing z ⟨valid, active⟩ => auditZone_none_iff.mp (nothing z (mem_zoneNumbers.mpr valid)) active,
    fun live z known => auditZone_none_iff.mpr fun active => live z ⟨mem_zoneNumbers.mp known, active⟩⟩

/-- R168: an AUDIT's finding is in the first examined zone, ascending, that has one. -/
theorem audit_some {a : AuditFinding} (found : audit s = some a) :
    Examined s a.zone ∧ (∀ z, z < a.zone → Examined s z → AllLive s (s.zone z).attach) ∧
      FirstNotLive s (s.zone a.zone).attach a := by
  obtain ⟨before, j, rest, numbers, here, nothing⟩ := List.findSome?_eq_some_iff.mp found
  obtain ⟨active, rfl, first⟩ := auditZone_some here
  have valid : ZoneValid a.zone := mem_zoneNumbers.mp (numbers ▸ by simp)
  refine ⟨⟨valid, active⟩, fun z lower ⟨known, running⟩ => ?_, first⟩
  have rising : (before ++ a.zone :: rest).Pairwise (· < ·) := numbers ▸ List.pairwise_lt_range'
  have earlier : z ∈ before := by
    have listed : z ∈ before ++ a.zone :: rest := numbers ▸ mem_zoneNumbers.mpr known
    rcases List.mem_append.mp listed with early | late
    · exact early
    · rcases List.mem_cons.mp late with rfl | late
      · exact absurd lower (Nat.lt_irrefl _)
      · have after := (List.pairwise_cons.mp (List.pairwise_append.mp rising).2.1).1 z late
        exact absurd lower (Nat.lt_asymm after)
  exact auditZone_none_iff.mp (nothing z earlier) running

/-- R164, R168: test 5 fails exactly where it finds a meter. -/
theorem outcomeOf_audit (s : State) : outcomeOf 5 s = if (audit s).isSome then .fail else .pass := rfl

end

/-- Settles O48: a voided close by the completion's first branch; the tests by what each of them finds. -/
theorem completionsReturnToIdle : Obligations.CompletionsReturnToIdle := by
  unfold Obligations.CompletionsReturnToIdle
  refine ⟨fun c s runs service voided => ?_, fun n s runs engine request first last => ?_, fun s runs engine request => ?_⟩
  · exact (exec_closeCompletion_of_service runs service).trans (congrArg Host.Outcome.next (if_pos voided))
  · have passed := failingCase_none first last
    have unaudited : failingMeter n s = none := if_neg (by omega)
    rw [exec_testRunCompletion_of_running runs engine request, completeTest, resultOf, outcomeOf_pass passed unaudited, passed,
      unaudited]
  · refine ⟨outcomeOf 5 s, audit s, exec_testRunCompletion_of_running runs engine request, ?_⟩
    dsimp only
    rw [outcomeOf_audit, ← audit_none_iff]
    refine ⟨?_, ?_, ?_, fun a found => audit_some found⟩ <;> cases audit s <;> simp

end Sys2Proof.Machine
end

section
/-! SUPPORT. R81 to R87, R119, R131 to R133, R139 to R141, R157, R158: the zone that a close's completion leaves. -/

namespace Sys2Proof.Machine

/-! ### Sets of causes (R130, R133) -/

theorem CauseSet.mem_inter_toList (a b : CauseSet) (x : Cause) :
    x ∈ (a.inter b).toList ↔ x ∈ a.toList ∧ x ∈ b.toList := by
  cases x <;> simp [CauseSet.toList, CauseSet.inter]

theorem CauseSet.eq_none_iff (set : CauseSet) : set = CauseSet.none ↔ set.toList = [] := by
  obtain ⟨coverage, negative, meter, dark, saturated⟩ := set
  simp [CauseSet.toList, CauseSet.none]

/-- R133: the summary is held when a cause that the route mask includes is held. -/
theorem summaryOf_iff (route held : CauseSet) : summaryOf route held = true ↔ ∃ x ∈ held.toList, x ∈ route.toList := by
  simp [summaryOf, CauseSet.eq_none_iff, List.eq_nil_iff_forall_not_mem, CauseSet.mem_inter_toList, and_comm]

/-! ### The stages on their zone (R84, R87, R140, R157, R158) -/

/-- R84: the monitor state that a completion leaves, from the verdict. -/
def Zone.stateAfter (zn : Zone) (survey : Bool) (v : Verdict) : MonitorState :=
  if survey || zn.stopPending then .standby else v.monitor

/-- R157, R158: a frozen history counts the night as unwritten; a running one takes it, and freezes on a leak entry where the
setting asks it. -/
theorem Zone.record_eq (zn : Zone) (r : NightRecord) (freeze : Bool) :
    zn.record r freeze = { zn with
      ring := if zn.frozen then zn.ring else (r :: zn.ring).take 16
      frozen := zn.frozen || (r.leakEntered && freeze)
      unwritten :=
        if zn.frozen then min 65535 (zn.unwritten + 1)
        else if r.leakEntered && freeze then 0 else zn.unwritten } := by
  unfold Zone.record
  cases frozen : zn.frozen with
  | true =>
    cases zn
    cases frozen
    rfl
  | false =>
    cases r.leakEntered && freeze with
    | true => rfl
    | false =>
      cases zn
      cases frozen
      rfl

/-- R87: a zone in STANDBY goes without a night. -/
theorem Zone.turnOver_rests {zn : Zone} (rests : zn.monitor.monitored = false) (c : CloseItem) (offset : Int) (now : Nat) :
    zn.turnOver c offset now = { zn with night := none, lastClosed := some ⟨c.night.ws, c.night.we⟩ } :=
  if_neg (by simp [rests])

/-- R47, R48, R87: a monitored zone goes on with the next night, on its chosen window. -/
theorem Zone.turnOver_continues {zn : Zone} (monitored : zn.monitor.monitored = true) (c : CloseItem) (offset : Int) (now : Nat) :
    zn.turnOver c offset now = { zn.applyStaged with
      lastClosed := some ⟨c.night.ws, c.night.we⟩
      night := some (createdNight zn.applyStaged.geometry offset
        (chooseStart zn.applyStaged.geometry offset now (some ⟨c.night.ws, c.night.we⟩)) false) } :=
  if_pos monitored

/-- The history and the turn to the next night write different parts of the zone. -/
theorem Zone.turnOver_record (zn : Zone) (r : NightRecord) (freeze : Bool) (c : CloseItem) (offset : Int) (now : Nat) :
    (zn.record r freeze).turnOver c offset now = (zn.turnOver c offset now).record r freeze := by
  have kept : (zn.record r freeze).monitor = zn.monitor := by rw [Zone.record_eq]
  cases monitored : zn.monitor.monitored with
  | false =>
    rw [Zone.turnOver_rests monitored, Zone.turnOver_rests (kept ▸ monitored), Zone.record_eq, Zone.record_eq]
  | true =>
    rw [Zone.turnOver_continues monitored, Zone.turnOver_continues (kept ▸ monitored), Zone.record_eq, Zone.record_eq]
    rfl

/-! ### The zone after a completion -/

/-- R84: a zone whose close is in service stays monitored, where neither a survey night nor a pending stop settles it. -/
theorem closeVerdict_monitored {c : CloseItem} {s : State} (ok : CloseOk s) (service : s.engine = some (.close c))
    (unvoided : c.void = false) (continues : (c.night.survey || (s.zone c.zone).stopPending) = false) :
    (closeVerdict c s).monitor.monitored = true := by
  obtain ⟨-, ⟨-, -, held⟩, life, -⟩ := ok
  have night : (s.zone c.zone).night = some c.night := held c service unvoided
  obtain ⟨standby, survey, -, -⟩ := life c.zone
  obtain ⟨ordinary, -⟩ := Bool.or_eq_false_iff.mp continues
  have active : (s.zone c.zone).monitor ≠ .standby := mt standby.mp (by simp [night])
  have surveys : (s.zone c.zone).monitor ≠ .survey := mt (survey c.night night).mpr (by simp [ordinary])
  rcases closeVerdict_monitor c s with same | ⟨-, monitored⟩
  · rw [same]
    cases monitor : (s.zone c.zone).monitor <;> simp_all [MonitorState.monitored]
  · exact monitored

/-- R84: the zone as stages 3 and 4 leave it, but for the pending copies that STANDBY applies. -/
def Zone.judged (zn : Zone) (c : CloseItem) (f : Figures) (v : Verdict) : Zone :=
  { zn.evaluate c.night c.captured f with
    judge := v.judge, monitor := zn.stateAfter c.night.survey v, stopPending := false }

/-- R84: the records of stages 5 and 6 take nothing but the monitor state from the settlement. -/
theorem records_judged (zn : Zone) (c : CloseItem) (f : Figures) (v : Verdict) (now : Nat) :
    publishedRecord ((zn.evaluate c.night c.captured f).settle v c.night.survey) c f v =
        publishedRecord (zn.judged c f v) c f v ∧
      nightRecord ((zn.evaluate c.night c.captured f).settle v c.night.survey) c f v now =
        nightRecord (zn.judged c f v) c f v now := by
  cases stops : c.night.survey || zn.stopPending with
  | true =>
    rw [Zone.settle_stops (zn := zn.evaluate c.night c.captured f) stops, Zone.judged, Zone.stateAfter, stops]
    exact ⟨rfl, rfl⟩
  | false =>
    rw [Zone.settle_continues (zn := zn.evaluate c.night c.captured f) stops, Zone.judged, Zone.stateAfter, stops]
    exact ⟨rfl, rfl⟩

/-- R81 to R87: the zone that a completion leaves: judged, published, its night freed and the next one created outside STANDBY,
and the history. -/
def Zone.afterClose (zn : Zone) (c : CloseItem) (f : Figures) (v : Verdict) (offset : Int) (now : Nat) : Zone :=
  Zone.record
    { zn.judged c f v with
      published := some (publishedRecord (zn.judged c f v) c f v)
      profile := some f.profile
      geometry := zn.applyStaged.geometry
      staged := Staged.none
      lastClosed := some ⟨c.night.ws, c.night.we⟩
      night :=
        if zn.stateAfter c.night.survey v = .standby then none
        else some (createdNight zn.applyStaged.geometry offset
          (chooseStart zn.applyStaged.geometry offset now (some ⟨c.night.ws, c.night.we⟩)) false) }
    (nightRecord (zn.judged c f v) c f v now) c.captured.freezeOnLeak

/-- R81 to R87: the stages' work on their zone, put together. -/
theorem Zone.closed_turnOver {zn : Zone} {c : CloseItem} {v : Verdict} (f : Figures) (offset : Int) (now : Nat)
    (continues : (c.night.survey || zn.stopPending) = false → v.monitor.monitored = true) :
    (zn.closed c f v now).turnOver c offset now = zn.afterClose c f v offset now := by
  obtain ⟨publishes, records⟩ := records_judged zn c f v now
  rw [Zone.afterClose, ← publishes, ← records]
  refine (Zone.turnOver_record _ _ _ c offset now).trans (congrArg (fun zn : Zone => zn.record _ _) ?_)
  cases stops : c.night.survey || zn.stopPending with
  | true =>
    have after : zn.stateAfter c.night.survey v = .standby := by rw [Zone.stateAfter, stops]; rfl
    rw [Zone.settle_stops (zn := zn.evaluate c.night c.captured f) stops, Zone.judged, after]
    rfl
  | false =>
    have after : zn.stateAfter c.night.survey v = v.monitor := by rw [Zone.stateAfter, stops]; rfl
    have active : v.monitor ≠ .standby := fun standby => by
      have monitored := continues stops
      rw [standby] at monitored
      cases monitored
    rw [Zone.settle_continues (zn := zn.evaluate c.night c.captured f) stops, Zone.judged, after, if_neg active]
    obtain ⟨-, unstopped⟩ := Bool.or_eq_false_iff.mp stops
    refine (Zone.turnOver_continues (continues stops) c offset now).trans ?_
    cases zn
    cases unstopped
    rfl

/-- R81: the zone of a close in service, after its completion. -/
theorem completeClose_zone_self {c : CloseItem} {s : State} (ok : CloseOk s) (service : s.engine = some (.close c))
    (unvoided : c.void = false) :
    (completeClose c s).zone c.zone =
      (s.zone c.zone).afterClose c (figuresOf s c.zone c.night c.captured) (closeVerdict c s) s.settings.offset s.now :=
  ((completeClose_zone unvoided s c.zone).trans (if_pos rfl)).trans
    (Zone.closed_turnOver _ _ _ (closeVerdict_monitored ok service unvoided))

/-- R81: beside zones, meters, groups, link and capture record, a completion writes the engine alone. -/
theorem completeClose_rest (c : CloseItem) (s : State) :
    { completeClose c s with
      link := s.link, zones := s.zones, meters := s.meters, groups := s.groups, capture := s.capture, engine := s.engine } = s :=
  (congrArg (fun u : State => { u with engine := s.engine }) (completeClose_frame c s).frame :)

/-- Settles O49: the zone by the stages on it, the rest by what a completion leaves alone. -/
theorem closeCompletionWritesTheNight : Obligations.CloseCompletionWritesTheNight := by
  unfold Obligations.CloseCompletionWritesTheNight
  intro c s runs service unvoided ok zn f dark live held summary v after hold record
  have summarized : summaryOf c.captured.routeMask held = summary := by
    rw [Bool.eq_iff_iff, summaryOf_iff, decide_eq_true_iff]
  have here := completeClose_zone_self ok service unvoided
  rw [Zone.afterClose, Zone.record_eq] at here
  refine ⟨_, exec_closeCompletion_of_service runs service, (completeClose_frame c s).engine, ?_⟩
  rw [here]
  clear_value summary
  subst summarized
  have freezes {b : Bool} (was : zn.frozen = b) :
      (zn.frozen || (v.leakEntered && c.captured.freezeOnLeak)) = (b || (v.leakEntered && c.captured.freezeOnLeak)) :=
    congrArg (· || _) was
  refine ⟨rfl, rfl, rfl, rfl, rfl, rfl, rfl, rfl, rfl, rfl, rfl, rfl, rfl,
    fun frozen => ⟨if_pos frozen, freezes frozen, if_pos frozen⟩, fun running => ?_,
    fun standby => if_pos standby, fun active => if_neg active,
    fun z other => (completeClose_zone unvoided s z).trans (if_neg other), completeClose_rest c s⟩
  have unfrozen : ¬ zn.frozen = true := by simp [running]
  exact ⟨if_neg unfrozen, freezes running, if_neg unfrozen⟩

end Sys2Proof.Machine
end

section
/-! SUPPORT. R95 to R102, R104: what the figures of a night are, from its row of slots. -/

namespace Sys2Proof.Machine

/-! ### Runs and their least sum (R96, R98) -/

/-- R96: the run that starts at slot `i`: `span` slots of the row, every one covered, with the volumes `vs`. -/
def RunAt (row : SlotRow) (span i : Nat) (vs : List Int) : Prop :=
  i + span ≤ row.length ∧ (row.drop i).take span = vs.map some

theorem runSum_eq_some_iff {block : SlotRow} {x : Int} :
    runSum block = some x ↔ ∃ vs : List Int, block = vs.map some ∧ vs.sum = x := by
  induction block generalizing x with
  | nil => simp [runSum]
  | cons slot rest ih =>
    cases slot with
    | none =>
      refine iff_of_false nofun ?_
      rintro ⟨_ | _, missing, _⟩ <;> cases missing
    | some v =>
      rw [runSum, Option.map_eq_some_iff]
      constructor
      · rintro ⟨y, sums, rfl⟩
        obtain ⟨vs, rfl, rfl⟩ := ih.mp sums
        exact ⟨v :: vs, rfl, List.sum_cons⟩
      · rintro ⟨_ | ⟨w, vs⟩, covered, rfl⟩ <;> cases covered
        exact ⟨vs.sum, ih.mpr ⟨vs, rfl, rfl⟩, List.sum_cons.symm⟩

/-- R96: the run sums are the sums of the runs. -/
theorem mem_runSums {row : SlotRow} {span : Nat} (fits : span ≤ row.length) {x : Int} :
    x ∈ runSums span row ↔ ∃ i vs, RunAt row span i vs ∧ vs.sum = x := by
  have starts (i : Nat) : i < row.length - span + 1 ↔ i + span ≤ row.length := by omega
  simp only [runSums, List.mem_filterMap, List.mem_range, runSum_eq_some_iff, starts, RunAt, and_assoc, exists_and_left]

theorem leastSum_eq_min? (sums : List Int) : leastSum sums = sums.min? := by
  induction sums with
  | nil => rfl
  | cons a rest ih => rw [leastSum, ih, List.min?_cons]; cases rest.min? <;> rfl

/-- R97: no run, no least sum. -/
theorem leastSum_runSums_eq_none_iff {row : SlotRow} {span : Nat} (fits : span ≤ row.length) :
    leastSum (runSums span row) = none ↔ ∀ i vs, ¬ RunAt row span i vs := by
  rw [leastSum_eq_min?, List.min?_eq_none_iff, List.eq_nil_iff_forall_not_mem]
  simp only [mem_runSums fits]
  exact ⟨fun noSum i vs run => noSum _ ⟨i, vs, run, rfl⟩, fun noRun _ ⟨i, vs, run, _⟩ => noRun i vs run⟩

/-- R98: the least sum is that of a run, and no run has a lesser one. -/
theorem leastRun_of_leastSum {row : SlotRow} {span : Nat} (fits : span ≤ row.length) {sum : Int}
    (least : leastSum (runSums span row) = some sum) :
    ∃ i vs, RunAt row span i vs ∧ vs.sum = sum ∧ ∀ i' vs', RunAt row span i' vs' → sum ≤ vs'.sum := by
  rw [leastSum_eq_min?, List.min?_eq_some_iff] at least
  obtain ⟨mem, below⟩ := least
  obtain ⟨i, vs, run, sums⟩ := (mem_runSums fits).mp mem
  exact ⟨i, vs, run, sums, fun i' vs' run' => below _ ((mem_runSums fits).mpr ⟨i', vs', run', rfl⟩)⟩

/-! ### The rounded and clamped figure (R99, R100) -/

/-- R99: `q` is `a / d` rounded to nearest, a half away from zero. -/
def RoundsTo (a d q : Int) : Prop :=
  2 * |a - q * d| < d ∨ 2 * |a - q * d| = d ∧ |a| < |q * d|

/-- R99, where nothing is negative: the quotient of `2a + d` by `2d`. -/
theorem roundsTo_of_nonneg {a d : Int} (nonneg : 0 ≤ a) (pos : 0 < d) : RoundsTo a d ((2 * a + d) / (2 * d)) := by
  have split := Int.mul_ediv_add_emod (2 * a + d) (2 * d)
  have low := Int.emod_nonneg (2 * a + d) (by omega : 2 * d ≠ 0)
  have high := Int.emod_lt_of_pos (2 * a + d) (by omega : 0 < 2 * d)
  generalize (2 * a + d) / (2 * d) = q at *
  rw [mul_assoc, mul_comm d] at split
  simp only [RoundsTo, Int.abs_eq_natAbs]
  generalize q * d = b at *
  omega

/-- R99: rounding is the same on both sides of zero. -/
theorem RoundsTo.neg {a d q : Int} (rounds : RoundsTo a d q) : RoundsTo (-a) d (-q) := by
  have distance : -a - -q * d = -(a - q * d) := by ring
  rwa [RoundsTo, distance, neg_mul, abs_neg, abs_neg, abs_neg]

theorem roundAway_roundsTo (a : Int) {d : Nat} (pos : 0 < d) : RoundsTo a d (roundAway a d) := by
  have pos : (0 : Int) < d := by exact_mod_cast pos
  rw [roundAway, Nat.cast_mul, Nat.cast_ofNat]
  split
  case isTrue nonneg => exact roundsTo_of_nonneg nonneg pos
  case isFalse negative =>
    simpa only [neg_neg] using (roundsTo_of_nonneg (a := -a) (by omega) pos).neg

theorem rawFlow_roundsTo (sum : Int) {span : Nat} (pos : 1 ≤ span) : RoundsTo sum (25 * span) (rawFlow sum span) := by
  exact_mod_cast roundAway_roundsTo sum (d := 25 * span) (by omega)

theorem clampFlow_eq (f : Int) : clampFlow f = max (-20000000) (min 20000000 f) := rfl

/-- R100: SATURATED. -/
theorem clampFlow_ne_iff (f : Int) : clampFlow f ≠ f ↔ f < -20000000 ∨ 20000000 < f := by
  rw [clampFlow_eq]
  omega

/-! ### What the runs of a night give (R97 to R100) -/

theorem runMin_of_some {row : SlotRow} {span missLimit : Nat} {sum : Int} (least : leastSum (runSums span row) = some sum) :
    runMin row span missLimit =
      ⟨missingCount row ≤ missLimit, some (clampFlow (rawFlow sum span)),
        decide (clampFlow (rawFlow sum span) ≠ rawFlow sum span)⟩ := by
  rw [runMin, least]

/-- R97. -/
theorem runMin_without_run {row : SlotRow} {span : Nat} (missLimit : Nat) (fits : span ≤ row.length)
    (noRun : ∀ i vs, ¬ RunAt row span i vs) : runMin row span missLimit = ⟨false, none, false⟩ := by
  rw [runMin, (leastSum_runSums_eq_none_iff fits).mpr noRun]

/-- R97 to R100: with a run there is a least one, and the figures are those of its sum. -/
theorem runMin_with_run {row : SlotRow} {span : Nat} (missLimit : Nat) (pos : 1 ≤ span) (fits : span ≤ row.length)
    (hasRun : ∃ i vs, RunAt row span i vs) :
    ∃ i vs, RunAt row span i vs ∧ (∀ i' vs', RunAt row span i' vs' → vs.sum ≤ vs'.sum) ∧
      ∃ q, RoundsTo vs.sum (25 * span) q ∧
        (runMin row span missLimit).mnf = some (max (-20000000) (min 20000000 q)) ∧
        ((runMin row span missLimit).saturated = true ↔ q < -20000000 ∨ 20000000 < q) ∧
        ((runMin row span missLimit).valid = true ↔ row.countP (·.isNone) ≤ missLimit) := by
  obtain ⟨i₀, vs₀, run₀⟩ := hasRun
  cases least : leastSum (runSums span row) with
  | none => exact absurd run₀ ((leastSum_runSums_eq_none_iff fits).mp least i₀ vs₀)
  | some sum =>
    obtain ⟨i, vs, run, rfl, below⟩ := leastRun_of_leastSum fits least
    rw [runMin_of_some least]
    exact ⟨i, vs, run, below, rawFlow vs.sum span, rawFlow_roundsTo _ pos, rfl,
      decide_eq_true_iff.trans (clampFlow_ne_iff _), decide_eq_true_iff⟩

/-! ### The conditions on the figure (R101, R102) -/

theorem isNegative_some (f : Int) (tolerance : Nat) : isNegative (some f) tolerance = true ↔ f < -(tolerance : Int) :=
  decide_eq_true_iff

theorem estimateOf_some (f : Int) (allowance : Nat) :
    ∃ e : Nat, estimateOf (some f) allowance = some e ∧ (e : Int) = max 0 (f - allowance) :=
  ⟨(f - allowance).toNat, rfl, by omega⟩

/-! ### Coverage (R70, R72) -/

theorem entryCovers_eq_coverMeets (s : State) (j : Nat) (e : Attachment) :
    entryCovers s j e = coverMeets s e (·.mask.getLsbD j) := entryCovers_eq s j e

theorem entryFaulted_eq_coverMeets (s : State) (e : Attachment) : entryFaulted s e = coverMeets s e (·.faulted) := by
  unfold entryFaulted coverMeets
  cases s.meter? e.channel with
  | none => rfl
  | some m => cases hc : m.coverOn e.side <;> simp [hc]

theorem slotCovered_iff (s : State) (z j : Nat) : slotCovered s z j = true ↔ SlotCoveredIn s z j := by
  simp [slotCovered, SlotCoveredIn, entryCovers_eq_coverMeets]

theorem fullyCovered_iff (s : State) (z : Nat) :
    fullyCovered s z = true ↔ ∃ nt ∈ (s.zone z).night, ∀ j, j < nt.length → SlotCoveredIn s z j := by
  unfold fullyCovered
  cases (s.zone z).night with
  | none => simp
  | some nt => simp [slotCovered_iff]

/-! ### The row and the profile of a night (R95, R104) -/

theorem profileOf_volumes (s : State) (z : Nat) (nt : Night) :
    (profileOf s z nt).slots.map (·.volume) = slotRow s z nt := by
  simp [profileOf, slotRow, Function.comp_def]

theorem coveredCount_add_missingCount (row : SlotRow) : coveredCount row + missingCount row = row.length := by
  rw [List.length_eq_countP_add_countP (·.isSome)]
  simp only [coveredCount, missingCount, Bool.not_eq_true, Bool.decide_eq_false, Option.not_isSome]

theorem slotRow_length (s : State) (z : Nat) (nt : Night) : (slotRow s z nt).length = nt.length := by
  simp [slotRow]

theorem profileOf_length (s : State) (z : Nat) (nt : Night) : (profileOf s z nt).slots.length = nt.length := by
  simp [profileOf]

/-- R104: the slots of a profile. -/
theorem profileOf_slot {s : State} {z : Nat} {nt : Night} {j : Nat} {slot : ProfileSlot}
    (at_j : (profileOf s z nt).slots[j]? = some slot) :
    slot.volume = (if SlotCoveredIn s z j then some (nt.slots.getD j 0) else none) ∧
      slot.count = (s.zone z).attach.countP fun e => coverMeets s e (·.mask.getLsbD j) := by
  rw [profileOf, List.getElem?_map, Option.map_eq_some_iff] at at_j
  obtain ⟨i, at_i, rfl⟩ := at_j
  obtain ⟨_, rfl⟩ := List.getElem?_eq_some_iff.mp at_i
  rw [List.getElem_range]
  simp only [slotCovered_iff, coverCount, ← entryCovers_eq_coverMeets, and_self]

/-- Settles O52: the figure by its least run, the coverage by the cover records, the profile slot by slot. -/
theorem minimumNightFlow : Obligations.MinimumNightFlow := by
  unfold Obligations.MinimumNightFlow
  refine ⟨fun row span missLimit pos fits => ⟨fun noRun => ?_, runMin_with_run missLimit pos fits⟩, isNegative_some,
    fun _ => rfl, estimateOf_some, fun _ => rfl, fullyCovered_iff, fun s z nt p => ?_⟩
  · rw [runMin_without_run missLimit fits noRun]
    exact ⟨rfl, rfl, rfl⟩
  · have volumes := profileOf_volumes s z nt
    refine ⟨congrArg (runMin · _ _) volumes.symm, rfl, rfl, congrArg coveredCount volumes.symm,
      (coveredCount_add_missingCount _).trans (slotRow_length s z nt), ?_, rfl, rfl, profileOf_length s z nt,
      fun j slot => profileOf_slot⟩
    simp only [figuresOf, List.any_eq_true, entryFaulted_eq_coverMeets]

end Sys2Proof.Machine
end

section
/-! SUPPORT. R118 to R125: what judging and learning a night make of the judgement state and the monitor state. -/

namespace Sys2Proof.Machine

/-! ### The baseline (R108, R121) -/

theorem clampBaseline_eq (f : Int) : clampBaseline f = (max 0 (min 20000000 f)).toNat := rfl

theorem clampBaseline_le (f : Int) : clampBaseline f ≤ 20000000 := by
  rw [clampBaseline_eq]
  omega

theorem updateBaseline_le (b : Nat) (f : Int) (k : Nat) : updateBaseline b f k ≤ 20000000 := clampBaseline_le _

/-- R121: the step of the baseline is the quotient rounded with halves upward. -/
theorem updateBaseline_step (b : Nat) (f : Int) (k : Nat) :
    ∃ d : Int, d * 2 ^ k ≤ f - b + 2 ^ (k - 1) ∧ f - b + 2 ^ (k - 1) < (d + 1) * 2 ^ k ∧
      (updateBaseline b f k : Int) = max 0 (min 20000000 (b + d)) := by
  have positive : (0 : Int) < 2 ^ k := by positivity
  refine ⟨(f - b + 2 ^ (k - 1)) / 2 ^ k, Int.ediv_mul_le _ positive.ne', Int.lt_ediv_add_one_mul_self _ positive, ?_⟩
  rw [updateBaseline, clampBaseline_eq]
  push_cast
  omega

/-! ### The hit test (R122) -/

theorem hitOf_eq_hit_iff (b : Nat) (f : Int) (r abs : Nat) :
    hitOf b f r abs = .hit ↔ (max abs ((b * r + 4) / 8) : Int) < f - b := by
  have threshold : ((thresholdOf b r abs : Nat) : Int) = max (abs : Int) (((b : Int) * r + 4) / 8) := by
    rw [thresholdOf]
    push_cast
    rfl
  rw [hitOf, threshold, excessOf]
  split <;> simp_all

/-! ### The hit list (R123) -/

theorem appendHit_of_length_le {hits : List HitFlag} {w : Nat} (fits : hits.length ≤ w) (pos : 0 < w) (flag : HitFlag) :
    appendHit hits flag w = if hits.length = w then hits.drop 1 ++ [flag] else hits ++ [flag] := by
  unfold appendHit
  rw [List.length_append, List.length_singleton]
  by_cases full : hits.length = w
  · rw [if_pos (by omega), if_pos full, List.drop_append_of_le_length (by omega)]
  · rw [if_neg (by omega), if_neg full]

theorem appendHit_length_le (hits : List HitFlag) (flag : HitFlag) {w limit : Nat} (fits : hits.length ≤ limit) (room : w ≤ limit) :
    (appendHit hits flag w).length ≤ limit := by
  unfold appendHit
  split
  · simpa using fits
  · next short => exact (Nat.le_of_not_lt short).trans room

theorem mem_appendHit {hits : List HitFlag} {flag x : HitFlag} {w : Nat} (h : x ∈ appendHit hits flag w) : x ∈ hits ∨ x = flag := by
  unfold appendHit at h
  split at h
  · simpa using List.mem_of_mem_drop h
  · simpa using h

theorem hitCount_eq_zero_iff {hits : List HitFlag} : hitCount hits = 0 ↔ HitFlag.hit ∉ hits := by
  simp [hitCount, List.countP_eq_zero, List.forall_mem_ne']

/-! ### The moves of the monitor state (R124) -/

/-- R124 steps 1 to 3: where a flag takes a zone in WATCH, which holds no hit, or in SUSPECT. -/
theorem trackFlag_unconfirmed {state : MonitorState} {hits : List HitFlag}
    (unconfirmed : state = .watch ∧ HitFlag.hit ∉ hits ∨ state = .suspect) (run : Nat) (flag : HitFlag) (w c : Nat) :
    trackFlag state hits run flag w c =
      if w < hitCount (appendHit hits flag w) * 2 then ⟨.leak, appendHit hits flag w, 0, true⟩
      else if hitCount (appendHit hits flag w) = 0 then ⟨.watch, appendHit hits flag w, run, false⟩
      else ⟨.suspect, appendHit hits flag w, run, false⟩ := by
  have fromSuspect : stepRelax (stepConfirm w ⟨.suspect, appendHit hits flag w, run, false⟩) =
      if w < hitCount (appendHit hits flag w) * 2 then ⟨.leak, appendHit hits flag w, 0, true⟩
      else if hitCount (appendHit hits flag w) = 0 then ⟨.watch, appendHit hits flag w, run, false⟩
      else ⟨.suspect, appendHit hits flag w, run, false⟩ := by
    by_cases confirmed : w < hitCount (appendHit hits flag w) * 2
    · simp [stepConfirm, stepRelax, confirmed]
    · by_cases calm : hitCount (appendHit hits flag w) = 0 <;> simp [stepConfirm, stepRelax, confirmed, calm]
  rcases unconfirmed with ⟨rfl, calm⟩ | rfl
  · cases flag with
    | hit => exact fromSuspect
    | nonHit =>
      have none : hitCount (appendHit hits .nonHit w) = 0 := by
        refine hitCount_eq_zero_iff.mpr fun h => ?_
        rcases mem_appendHit h with h | h
        · exact calm h
        · cases h
      simp [trackFlag, stepSuspect, stepConfirm, stepRelax, none]
  · exact fromSuspect

/-- R124 steps 4 and 5: where a flag takes a zone in LEAK. -/
theorem trackFlag_leak (hits : List HitFlag) (run : Nat) (flag : HitFlag) (w c : Nat) :
    trackFlag .leak hits run flag w c =
      if flag = .hit then ⟨.leak, appendHit hits flag w, 0, false⟩
      else if c ≤ run + 1 then ⟨.watch, [], 0, false⟩ else ⟨.leak, appendHit hits flag w, run + 1, false⟩ := rfl

/-! ### Which nights are learned or judged (R118, R120, R122) -/

theorem MonitorState.monitored_iff (m : MonitorState) : m.monitored = true ↔ m ≠ .standby ∧ m ≠ .survey := by
  cases m <;> decide

theorem judgeable_eq_false {state : MonitorState} {survey excluded valid negative : Bool}
    (bar : state = .standby ∨ state = .survey ∨ survey = true ∨ excluded = true ∨ valid = false ∨ negative = true) :
    judgeable state survey excluded valid negative = false := by
  rcases bar with rfl | rfl | rfl | rfl | rfl | rfl <;> simp [judgeable, MonitorState.monitored]

/-- R118: a night that is not judgeable leaves the judgement state. -/
theorem judgeNight_barred {state : MonitorState} {survey excluded valid negative : Bool}
    (barred : judgeable state survey excluded valid negative = false) (j : Judgement) (mnf : Option Int) (p : Params) :
    judgeNight state j survey excluded valid negative mnf p = ⟨j, state, none, .notJudged, false⟩ := by
  cases mnf <;> simp [judgeNight, barred]

/-- R118: a judgeable night is learned in LEARNING, and judged otherwise. -/
theorem judgeNight_judgeable {state : MonitorState} (monitored : state.monitored = true) (j : Judgement) (f : Int) (p : Params) :
    judgeNight state j false false true false (some f) p =
      if state = .learning then learnNight j f p else judgeArmed state j f p := by
  simp [judgeNight, judgeable, monitored]

theorem learnNight_eq (j : Judgement) (f : Int) (p : Params) :
    learnNight j f p =
      (let count := min 30 (j.learningCount + 1)
       let learned := { j with
         baseline := some (j.baseline.elim (max 0 (min 20000000 f)).toNat fun b => updateBaseline b f p.weightShift)
         learningCount := count
         lastMnf := some f }
       if p.learnNights ≤ count then ⟨{ learned with hitList := [], nonHitRun := 0 }, .watch, none, .notJudged, false⟩
       else ⟨learned, .learning, none, .notJudged, false⟩) := by
  unfold learnNight
  cases j.baseline <;> rfl

theorem judgeArmed_eq {j : Judgement} {b : Nat} (baseline : j.baseline = some b) (state : MonitorState) (f : Int) (p : Params) :
    judgeArmed state j f p =
      (let flag := hitOf b f p.relEighths p.absThreshold
       let track := trackFlag state j.hitList j.nonHitRun flag p.confirmWindow p.clearRun
       ⟨{ j with
           baseline := some (if state = .watch ∧ flag = .nonHit then updateBaseline b f p.weightShift else b)
           hitList := track.hits
           nonHitRun := track.nonHitRun
           leakHeld := j.leakHeld || track.leakEntered
           lastMnf := some f },
         track.state, some (f - b), .judged flag, track.leakEntered⟩) := by
  unfold judgeArmed excessOf
  dsimp only
  rw [baseline, Option.getD_some, apply_ite some]

/-- Settles O53: each function of the judgement by its own lemma. -/
theorem judgementArithmetic : Obligations.JudgementArithmetic := by
  unfold Obligations.JudgementArithmetic
  refine ⟨fun b f k _ => updateBaseline_step b f k, hitOf_eq_hit_iff, fun state hits run w c flag wide unconfirmed fits => ?_,
    fun hits run w c flag wide fits => ?_, fun state survey excluded valid count => ?_,
    fun state j survey excluded valid negative p => ⟨fun mnf bar => judgeNight_barred (judgeable_eq_false bar) j mnf p, ?_⟩⟩
  · rw [trackFlag_unconfirmed unconfirmed, appendHit_of_length_le fits (by omega)]
    rfl
  · rw [trackFlag_leak, appendHit_of_length_le fits (by omega)]
  · have monitored := state.monitored_iff
    refine ⟨fun ⟨on, night, own⟩ invalid included => ?_, fun ⟨on, night, own⟩ valid => ?_, fun stays => ?_⟩
    · simp [darkAfter, monitored.mpr ⟨on, night⟩, own, invalid, included]
    · simp [darkAfter, monitored.mpr ⟨on, night⟩, own, valid]
    · rcases stays with uncounted | ⟨invalid, excluded⟩
      · have passed : (!state.monitored || survey) = true := by
          rw [← and_assoc, ← monitored] at uncounted
          cases on : state.monitored with
          | false => rfl
          | true => simpa [on] using uncounted
        simp only [darkAfter, passed, if_true]
      · simp [darkAfter, invalid, excluded]
  · rintro f rfl rfl rfl rfl
    refine ⟨?_, fun b baseline armed => ?_⟩
    · rintro rfl
      rw [judgeNight_judgeable rfl, if_pos rfl, learnNight_eq]
    · have judged : state.monitored = true ∧ state ≠ .learning := by rcases armed with rfl | rfl | rfl <;> decide
      rw [judgeNight_judgeable judged.1, if_neg judged.2, judgeArmed_eq baseline]

end Sys2Proof.Machine
end

section
/-! SUPPORT. What one command does to each zone's settings 6 to 20, monitor state, judgement, causes and history, said once; and
the invariants of these that every step keeps (R108, R122, R124, R127, R130, R156). -/

namespace Sys2Proof.Machine

/-! ### A zone's standing -/

/-- What judging, the causes and the history make of a zone, with the settings they go by. -/
structure Standing where
  params : Params
  monitor : MonitorState
  judge : Judgement
  live : CauseSet
  held : CauseSet
  ring : List NightRecord
  unwritten : Nat

/-- The standing of a zone. -/
def Zone.standing (zn : Zone) : Standing := ⟨zn.params, zn.monitor, zn.judge, zn.live, zn.held, zn.ring, zn.unwritten⟩

/-- What a command other than a completion makes of the standing of one zone. -/
inductive Zone.Moves (zn zn' : Zone) : Prop
  | rests (h : zn'.standing = zn.standing)
  /-- R113 to STANDBY or SURVEY, R112, R184 -/
  | disarms (m : MonitorState) (unarmed : m.armed = false) (h : zn'.standing = { zn.standing with monitor := m })
  /-- R44, R127 -/
  | entries (es : List (Nat × Int)) (h : zn'.standing = (zn.takeEntries es).standing)
  /-- R111 -/
  | starts (r : ZoneStartReq) (fields : zoneStartFault r = none) (h : zn'.standing = (zn.startAfresh r.seed r.mode).standing)
  /-- R115 -/
  | rebases (f : Int) (h : zn'.standing = (zn.rebase f).standing)
  /-- R116, R134 -/
  | acknowledges (h : zn'.standing = zn.acknowledge.standing)
  /-- R117, and the resets -/
  | clears (was : Zone) (h : zn'.standing = was.clearAll.standing)

/-- What a rest after a move adds: nothing. -/
theorem Zone.Moves.of_standing {zn zn' zn'' : Zone} (h : zn.Moves zn') (rest : zn''.standing = zn'.standing) : zn.Moves zn'' := by
  cases h with
  | rests h => exact .rests (rest.trans h)
  | disarms m unarmed h => exact .disarms m unarmed (rest.trans h)
  | entries es h => exact .entries es (rest.trans h)
  | starts r fields h => exact .starts r fields (rest.trans h)
  | rebases f h => exact .rebases f (rest.trans h)
  | acknowledges h => exact .acknowledges (rest.trans h)
  | clears was h => exact .clears was (rest.trans h)

/-! ### Changes that leave every zone's standing -/

/-- Every zone keeps its standing. -/
def Rests (s t : State) : Prop := ∀ z, (t.zone z).standing = (s.zone z).standing

namespace Rests

theorem refl (s : State) : Rests s s := fun _ => rfl

theorem trans {s t u : State} (h : Rests s t) (k : Rests t u) : Rests s u := fun z => (k z).trans (h z)

theorem of_zone {s t : State} (h : ∀ z, t.zone z = s.zone z) : Rests s t := fun z => congrArg Zone.standing (h z)

theorem foldl {α : Type} {f : State → α → State} (h : ∀ s a, Rests s (f s a)) (l : List α) (s : State) :
    Rests s (l.foldl f s) := by
  induction l generalizing s with
  | nil => exact refl s
  | cons a rest ih => exact (h s a).trans (ih (f s a))

theorem updZone (s : State) (z : Nat) {f : Zone → Zone} (h : (f (s.zone z)).standing = (s.zone z).standing) :
    Rests s (s.updZone z f) := by
  intro j
  rw [State.zone_updZone]
  split
  · next here => exact here ▸ h
  · rfl

theorem updInside (s : State) (z : Nat) {f : Zone → Zone} (h : ∀ zn, (f zn).standing = zn.standing) :
    Rests s (s.updInside z f) := by
  unfold State.updInside
  split
  · exact refl s
  · exact updZone s z (h _)

theorem updMeter (s : State) (ch : Nat) (f : Meter → Meter) : Rests s (s.updMeter ch f) := of_zone (State.updMeter_zone s ch f)

theorem raiseIf (s : State) (b : Bool) (n : Notice) : Rests s (s.raiseIf b n) := of_zone (s.raiseIf_zone b n)

theorem raiseChange (z : Nat) (before : MonitorState) (s : State) : Rests s (raiseChange z before s) := raiseIf s _ _

theorem refreshGroups (z : Nat) (s : State) : Rests s (refreshGroups z s) := of_zone (refreshGroups_zone z s)

theorem refreshOnSummary (z : Nat) (before s : State) : Rests s (refreshOnSummary z before s) := by
  unfold Machine.refreshOnSummary
  split
  · exact refl s
  · exact refreshGroups z s

theorem createNight (z : Nat) (survey : Bool) (s : State) : Rests s (createNight z survey s) := by
  intro j
  rw [createNight_zone]
  split
  · next here => exact here ▸ rfl
  · rfl

theorem queueNight (z : Nat) (cause : CloseCause) (s : State) : Rests s (queueNight z cause s) := by
  intro j
  rw [queueNight_zone]
  split
  · next here => exact here ▸ rfl
  · rfl

theorem discardNight (z : Nat) (s : State) : Rests s (discardNight z s) := by
  intro j
  rw [discardNight_zone]
  split
  · next here => exact here ▸ rfl
  · rfl

/-! ### Readings (Chapters 2 and 4) -/

theorem takeSide (iv : Interval) (side : Side) (s : State) : Rests s (takeSide iv side s) := by
  unfold Machine.takeSide
  split
  · exact refl s
  · split
    · exact refl s
    · refine (updZone s _ ?_).trans (updMeter _ _ _)
      unfold Zone.takePortions
      split
      · split <;> rfl
      · rfl

theorem apportion (iv : Interval) (s : State) : Rests s (apportion iv s) := by
  unfold Machine.apportion
  split
  · exact refl s
  · exact ((takeSide iv .fromSide s).trans (takeSide iv .toSide _)).trans (foldl (fun s z => queueNight z .complete s) _ _)

theorem takeRecord (r : ReadingRecord) (s : State) : Rests s (takeRecord r s).state := by
  unfold Machine.takeRecord
  split
  · exact refl s
  · split
    · exact refl s
    · split
      · exact refl s
      · split
        · exact refl s
        · unfold againstBase
          split
          · exact updMeter _ _ _
          · split
            · exact refl s
            · split
              · exact refl s
              · unfold formInterval
                split
                · exact of_zone fun _ => rfl
                · exact (apportion _ s).trans (updMeter _ _ _)

/-! ### The directory (Chapter 1) -/

theorem detachMeter (ch : Nat) (m : Meter) (s : State) : Rests s (detachMeter ch m s) :=
  (updInside s _ (f := fun zn => zn.detach ch) fun _ => rfl).trans (updInside _ _ (f := fun zn => zn.detach ch) fun _ => rfl)

theorem relistMeter (ch : Nat) (m : Meter) (r : AttachReq) (s : State) : Rests s (relistMeter ch m r s) :=
  ((detachMeter ch m s).trans (updInside _ _ (f := fun zn => zn.attachEntry ⟨ch, .fromSide⟩) fun _ => rfl)).trans
    (updInside _ _ (f := fun zn => zn.attachEntry ⟨ch, .toSide⟩) fun _ => rfl)

theorem addMeterAnswer (r : AddMeterReq) (s : State) : Rests s (addMeterAnswer r s).state := by
  unfold Machine.addMeterAnswer
  split
  · exact refl s
  · split
    · exact refl s
    · split <;> exact of_zone fun _ => rfl

theorem removeMeterAnswer (serial : Nat) (s : State) : Rests s (removeMeterAnswer serial s).state := by
  unfold Machine.removeMeterAnswer
  split
  · exact refl s
  · split
    · exact refl s
    · split
      · exact refl s
      · exact detachMeter _ _ s

theorem replaceAnswer (r : ReplaceReq) (s : State) : Rests s (replaceAnswer r s).state := by
  unfold Machine.replaceAnswer
  split
  · exact refl s
  · split
    · exact refl s
    · split
      · exact refl s
      · split
        · exact refl s
        · split <;> exact of_zone fun _ => rfl

theorem attachAnswer (r : AttachReq) (s : State) : Rests s (attachAnswer r s).state := by
  unfold Machine.attachAnswer
  split
  · exact refl s
  · split
    · exact refl s
    · split
      · exact refl s
      · split
        · exact refl s
        · exact relistMeter _ _ r s

/-! ### Clock marks and nights (Chapter 3) -/

theorem markZone (clock : Nat) (s : State) (z : Nat) : Rests s (markZone clock s z) := by
  have ended : Rests s (s.updZone z fun zn => { zn with night := zn.night.map fun nt => nt.endWindow clock }) :=
    updZone s z rfl
  unfold Machine.markZone
  dsimp only
  split
  · split
    · exact ended.trans (queueNight z _ _)
    · split
      · exact ended.trans (queueNight z _ _)
      · exact ended
  · exact ended

theorem staleCheck (clock : Nat) (s : State) : Rests s (staleCheck clock s) :=
  of_zone fun z => (congrArg (fun u : State => u.zone z) (foldl_makeStale_frame (lapsedChannels s clock) s) :)

theorem clockMarkAnswer (time : Nat) (s : State) : Rests s (clockMarkAnswer time s).state := by
  unfold Machine.clockMarkAnswer
  split
  · exact refl s
  · have set : Rests s { s with clock := some time } := of_zone fun _ => rfl
    exact (set.trans (foldl (markZone time) zoneNumbers _)).trans (staleCheck time _)

theorem forceCloseAnswer (z : Nat) (s : State) : Rests s (forceCloseAnswer z s).state := by
  unfold Machine.forceCloseAnswer
  split
  · exact refl s
  · split
    · exact refl s
    · split
      case h_2 => exact queueNight z .forced s
      all_goals exact refl s

theorem excludeNightAnswer (z : Nat) (s : State) : Rests s (excludeNightAnswer z s).state := by
  unfold Machine.excludeNightAnswer
  split
  · exact refl s
  · split
    · exact refl s
    · split
      · exact updZone s z rfl
      · exact refl s

/-! ### Reads, settings of the part, groups, history, the report set and the self-test -/

theorem meterReadAnswer (r : MeterReadReq) (s : State) : Rests s (meterReadAnswer r s).state := by
  unfold Machine.meterReadAnswer
  split
  · exact refl s
  · split <;> exact refl s

theorem zoneReadAnswer (z : Nat) (s : State) : Rests s (zoneReadAnswer z s).state := by
  unfold Machine.zoneReadAnswer
  split <;> exact refl s

theorem zoneProfileAnswer (z : Nat) (s : State) : Rests s (zoneProfileAnswer z s).state := by
  unfold Machine.zoneProfileAnswer
  split
  · exact refl s
  · split <;> exact refl s

theorem groupReadAnswer (g : Nat) (s : State) : Rests s (groupReadAnswer g s).state := by
  unfold Machine.groupReadAnswer
  split <;> exact refl s

theorem historyReadAnswer (r : HistoryReadReq) (s : State) : Rests s (historyReadAnswer r s).state := by
  unfold Machine.historyReadAnswer
  split
  · exact refl s
  · split <;> exact refl s

theorem unfreezeAnswer (z : Nat) (s : State) : Rests s (unfreezeAnswer z s).state := by
  unfold Machine.unfreezeAnswer
  split
  · exact refl s
  · exact updZone s z rfl

theorem partSetAnswer (r : PartSetReq) (s : State) : Rests s (partSetAnswer r s).state := by
  unfold Machine.partSetAnswer
  split
  · exact refl s
  · split <;> exact of_zone fun _ => rfl

theorem groupSetAnswer (r : GroupSetReq) (s : State) : Rests s (groupSetAnswer r s).state := by
  unfold Machine.groupSetAnswer
  split
  · exact refl s
  · split
    · exact refl s
    · split
      · exact refl s
      · exact (of_zone fun _ => rfl : Rests s (s.setGroup _ _)).trans (raiseIf _ _ _)

theorem restartAnswer (level : Nat) (s : State) : Rests s (restartAnswer level s).state := by
  unfold Machine.restartAnswer
  split <;> exact of_zone fun _ => rfl

theorem reportHoldAnswer (s : State) : Rests s (reportHoldAnswer s).state := by
  unfold Machine.reportHoldAnswer
  split <;> exact of_zone fun _ => rfl

theorem reportReleaseAnswer (s : State) : Rests s (reportReleaseAnswer s).state := by
  unfold Machine.reportReleaseAnswer
  split <;> exact of_zone fun _ => rfl

theorem testStartAnswer (test : Nat) (s : State) : Rests s (testStartAnswer test s).state := by
  unfold Machine.testStartAnswer
  split
  · exact refl s
  · split <;> exact of_zone fun _ => rfl

theorem testCancelAnswer (s : State) : Rests s (testCancelAnswer s).state := by
  unfold Machine.testCancelAnswer
  split <;> exact of_zone fun _ => rfl

end Rests

/-! ### Changes that move a zone's standing -/

/-- Each zone's standing rests or moves once. -/
def ZoneMoves (s t : State) : Prop := ∀ z, (s.zone z).Moves (t.zone z)

namespace ZoneMoves

theorem of_rests {s t : State} (h : Rests s t) : ZoneMoves s t := fun z => .rests (h z)

theorem refl (s : State) : ZoneMoves s s := of_rests (.refl s)

theorem thenRests {s t u : State} (h : ZoneMoves s t) (k : Rests t u) : ZoneMoves s u := fun z => (h z).of_standing (k z)

theorem updZone (s : State) (z : Nat) {f : Zone → Zone} (h : (s.zone z).Moves (f (s.zone z))) : ZoneMoves s (s.updZone z f) := by
  intro j
  rw [State.zone_updZone]
  split
  · next here => exact here ▸ h
  · exact .rests rfl

/-- R44 -/
theorem zoneSetAnswer (r : ZoneSetReq) (s : State) : ZoneMoves s (zoneSetAnswer r s).state := by
  unfold Machine.zoneSetAnswer
  split
  · exact refl s
  · exact refl s
  · exact (updZone s r.zone (f := fun zn => zn.takeEntries r.entries) (.entries r.entries rfl)).thenRests
      (.refreshOnSummary _ _ _)

/-- R111 -/
theorem zoneStartAnswer (r : ZoneStartReq) (s : State) : ZoneMoves s (zoneStartAnswer r s).state := by
  unfold Machine.zoneStartAnswer
  split
  · exact refl s
  · next fields =>
    split
    · exact refl s
    · exact ((updZone s r.zone (f := fun zn => zn.startAfresh r.seed r.mode) (.starts r fields rfl)).thenRests
        (.createNight _ _ _)).thenRests (.refreshGroups _ _)

/-- R113 -/
theorem zoneSurveyAnswer (z : Nat) (s : State) : ZoneMoves s (zoneSurveyAnswer z s).state := by
  unfold Machine.zoneSurveyAnswer
  split
  · exact refl s
  · split
    · exact refl s
    · exact ((updZone s z (f := fun zn => { zn with monitor := .survey }) (.disarms .survey rfl rfl)).thenRests
        (.createNight _ _ _)).thenRests (.refreshGroups _ _)

/-- R89, R112 -/
theorem zoneStopAnswer (z : Nat) (s : State) : ZoneMoves s (zoneStopAnswer z s).state := by
  unfold Machine.zoneStopAnswer
  split
  · exact refl s
  · split
    · exact refl s
    · split
      · exact updZone s z (f := fun zn => { zn with stopPending := true }) (.rests rfl)
      · intro j
        rw [okWith_state, stopZone_zone]
        split
        · next here => exact here ▸ .disarms .standby rfl rfl
        · exact .rests rfl

/-- R115 -/
theorem acceptLevelAnswer (z : Nat) (s : State) : ZoneMoves s (acceptLevelAnswer z s).state := by
  unfold Machine.acceptLevelAnswer
  split
  · exact refl s
  · split
    · exact refl s
    · split
      · exact refl s
      · next f _ =>
        have rebased : ZoneMoves s (s.updZone z fun zn => zn.rebase f) := updZone s z (.rebases f rfl)
        rw [okWith_state]
        unfold acceptLevel
        dsimp only
        split
        · exact rebased.thenRests (.raiseChange _ _ _)
        · exact (rebased.thenRests (.raiseChange _ _ _)).thenRests (.refreshGroups _ _)

/-- R116, R134 -/
theorem ackZoneAnswer (z : Nat) (s : State) : ZoneMoves s (ackZoneAnswer z s).state := by
  unfold Machine.ackZoneAnswer
  split
  · exact refl s
  · exact (updZone s z (f := Zone.acknowledge) (.acknowledges rfl)).thenRests (.refreshOnSummary _ _ _)

/-- R117 -/
theorem resetZoneAnswer (z : Nat) (s : State) : ZoneMoves s (resetZoneAnswer z s).state := by
  unfold Machine.resetZoneAnswer
  split
  · exact refl s
  · intro j
    rw [okWith_state, resetZone_zone]
    split
    · next here => exact here ▸ .clears _ rfl
    · exact .rests rfl

/-- R184 -/
theorem abandonAll (s : State) : ZoneMoves s (abandonAll s) := by
  intro z
  rw [abandonAll_zone]
  split
  · exact .disarms .standby rfl rfl
  · exact .rests rfl

theorem fullReset (l : Link) (s : State) : ZoneMoves s (fullReset l s) := fun _ => .clears Zone.reset rfl

theorem runtimeReset (l : Link) (s : State) : ZoneMoves s (runtimeReset l s) := by
  intro z
  rcases runtimeReset_zone_cases l s z with reset | ⟨was, cleared⟩
  · rw [reset]
    exact .clears Zone.reset rfl
  · rw [cleared]
    exact .clears was rfl

/-- What a request does, its owner does. -/
theorem serve {kind tag : Byte} {payload : List Byte} {owner : List Byte → State → Answer} {s t : State}
    (h : ∀ p u, ZoneMoves u (owner p u).state) (e : serve kind tag payload owner s = .next t) : ZoneMoves s t := by
  rcases serve_cases e with ⟨-, rfl⟩ | ⟨-, rfl⟩
  · exact h payload s.popIntake
  · exact refl _

/-- A request that is parsed whole before its owner takes it. -/
theorem serve_withFields {α : Type} {kind tag : Byte} {payload : List Byte} {parse : List Byte → Option α}
    {owner : α → State → Answer} {s t : State} (h : ∀ r u, ZoneMoves u (owner r u).state)
    (e : Machine.serve kind tag payload (fun p s => Machine.withFields (parse p) s fun r => owner r s) s = .next t) :
    ZoneMoves s t := by
  refine serve (fun p u => ?_) e
  cases parse p with
  | none => exact refl u
  | some r => exact h r u

/-- A request whose owner leaves every zone's standing. -/
theorem serve_rests {α : Type} {kind tag : Byte} {payload : List Byte} {parse : List Byte → Option α}
    {owner : α → State → Answer} {s t : State} (h : ∀ r u, Rests u (owner r u).state)
    (e : Machine.serve kind tag payload (fun p s => Machine.withFields (parse p) s fun r => owner r s) s = .next t) :
    ZoneMoves s t :=
  serve_withFields (fun r u => of_rests (h r u)) e

end ZoneMoves

/-! ### Completions -/

/-- What the readings of a batch and the engine's events between them do, one after another: nothing to a zone's standing, or
the completion of a close. -/
inductive EngineRun : State → State → Prop
  | rests {s t : State} (moves : NightMoves s t) (h : Rests s t) : EngineRun s t
  | closes {s : State} (c : CloseItem) (inService : closeInService s = some c) : EngineRun s (completeClose c s)
  | trans {s t u : State} (h : EngineRun s t) (k : EngineRun t u) : EngineRun s u

namespace EngineRun

theorem refl (s : State) : EngineRun s s := .rests (.refl s) (.refl s)

theorem engineEvent (s : State) : EngineRun s (engineEvent s) := by
  have moves := NightMoves.engineEvent s
  unfold Machine.engineEvent at moves ⊢
  split at moves
  case h_1 inService => exact .closes _ inService
  case h_2 => exact .rests moves (.of_zone fun _ => rfl)
  case h_3 => exact .rests moves (.updZone s _ (f := fun zn => { zn with night := _ }) rfl)
  case h_4 => exact .rests moves (.of_zone fun _ => rfl)
  case h_5 => exact refl s

theorem engineEvents (k : Nat) (s : State) : EngineRun s (engineEvents k s) := by
  induction k generalizing s with
  | zero => exact refl s
  | succ k ih => exact (engineEvent s).trans (ih _)

theorem takeRecord (r : ReadingRecord) (s : State) : EngineRun s (takeRecord r s).state :=
  .rests (NightMoves.takeRecord r s) (Rests.takeRecord r s)

theorem takeRecords (rs : List ReadingRecord) (events : List Nat) (s : State) : EngineRun s (takeRecords rs events s).1 := by
  induction rs, events, s using Machine.takeRecords.induct with
  | case1 events s => exact refl s
  | case2 r events s => exact takeRecord r s
  | case3 r rest events s more a ih =>
    rw [takeRecords_cons r more]
    exact ((takeRecord r s).trans (engineEvents _ _)).trans ih

theorem batchAnswer (b : BatchReq) (events : List Nat) (s : State) : EngineRun s (batchAnswer b events s).state := by
  unfold Machine.batchAnswer
  split
  · exact takeRecords b.records events s
  · exact refl s

/-- R20: a request that is parsed whole before its owner takes it. -/
theorem serve_withFields {α : Type} {kind tag : Byte} {payload : List Byte} {parse : List Byte → Option α}
    {owner : α → State → Answer} {s t : State} (h : ∀ r u, EngineRun u (owner r u).state)
    (e : serve kind tag payload (fun p s => withFields (parse p) s fun r => owner r s) s = .next t) : EngineRun s t := by
  have of_schedule {u v : State} (h : v.schedule = u.schedule) (zone : ∀ z, v.zone z = u.zone z) : EngineRun u v :=
    .rests (.of_schedule h) (.of_zone zone)
  have owned (u : State) : EngineRun u (withFields (parse payload) u fun r => owner r u).state := by
    cases parse payload with
    | none => exact refl u
    | some r => exact h r u
  rcases serve_cases e with ⟨-, rfl⟩ | ⟨-, rfl⟩
  · have taken : EngineRun s s.popIntake := of_schedule rfl fun _ => rfl
    exact (taken.trans (owned s.popIntake)).trans (of_schedule rfl fun _ => rfl)
  · exact refl _

end EngineRun

/-- What a command does to the zones' standings: at most one move in each zone, or what a batch of readings and the engine do. -/
theorem exec_standings {c : Instr} {s t : State} (e : exec c s = .next t) : ZoneMoves s t ∨ EngineRun s t := by
  cases c
  case addMeter => exact .inl (.serve_rests Rests.addMeterAnswer e)
  case removeMeter => exact .inl (.serve_rests Rests.removeMeterAnswer e)
  case replaceMeter => exact .inl (.serve_rests Rests.replaceAnswer e)
  case attachMeter => exact .inl (.serve_rests Rests.attachAnswer e)
  case meterRead => exact .inl (.serve_rests Rests.meterReadAnswer e)
  case reading => exact .inl (.serve_rests (owner := readingAnswer) Rests.takeRecord e)
  case readingBatch events => exact .inr (.serve_withFields (fun b u => EngineRun.batchAnswer b events u) e)
  case clockMark => exact .inl (.serve_rests Rests.clockMarkAnswer e)
  case partSet => exact .inl (.serve_rests Rests.partSetAnswer e)
  case partStatus => exact .inl (.serve_rests (fun _ u => Rests.refl u) e)
  case zoneSet => exact .inl (.serve_withFields ZoneMoves.zoneSetAnswer e)
  case forceClose => exact .inl (.serve_rests Rests.forceCloseAnswer e)
  case zoneStart => exact .inl (.serve_withFields ZoneMoves.zoneStartAnswer e)
  case zoneStop => exact .inl (.serve_withFields ZoneMoves.zoneStopAnswer e)
  case zoneSurvey => exact .inl (.serve_withFields ZoneMoves.zoneSurveyAnswer e)
  case excludeNight => exact .inl (.serve_rests Rests.excludeNightAnswer e)
  case acceptLevel => exact .inl (.serve_withFields ZoneMoves.acceptLevelAnswer e)
  case ackZone => exact .inl (.serve_withFields ZoneMoves.ackZoneAnswer e)
  case resetZone => exact .inl (.serve_withFields ZoneMoves.resetZoneAnswer e)
  case zoneRead => exact .inl (.serve_rests Rests.zoneReadAnswer e)
  case zoneProfile => exact .inl (.serve_rests Rests.zoneProfileAnswer e)
  case groupSet => exact .inl (.serve_rests Rests.groupSetAnswer e)
  case groupRead => exact .inl (.serve_rests Rests.groupReadAnswer e)
  case historyRead => exact .inl (.serve_rests Rests.historyReadAnswer e)
  case unfreeze => exact .inl (.serve_rests Rests.unfreezeAnswer e)
  case reportHold => exact .inl (.serve_rests (fun _ => Rests.reportHoldAnswer) e)
  case reportRelease => exact .inl (.serve_rests (fun _ => Rests.reportReleaseAnswer) e)
  case captureRead => exact .inl (.serve_rests (fun _ u => Rests.refl u) e)
  case clearCapture => exact .inl (.serve_rests (fun _ _ => .of_zone fun _ => rfl) e)
  case testStart => exact .inl (.serve_rests Rests.testStartAnswer e)
  case testCancel => exact .inl (.serve_rests (fun _ => Rests.testCancelAnswer) e)
  case testRead => exact .inl (.serve_rests (fun _ u => Rests.refl u) e)
  case testClear => exact .inl (.serve_rests (fun _ _ => .of_zone fun _ => rfl) e)
  case noticeFetch => exact .inl (.serve_rests (fun _ _ => .of_zone fun _ => rfl) e)
  case restart => exact .inl (.serve_rests Rests.restartAnswer e)
  case unknownKind =>
    simp only [exec, execUnknownKind] at e
    split at e
    · cases e
      exact .inl (.refl _)
    · exact .inl (.serve (fun _ u => ZoneMoves.refl u) e)
  case restartTakesEffect =>
    simp only [exec, execRestartTakesEffect] at e
    split at e <;> cases e
    · exact .inl (.runtimeReset _ s)
    · exact .inl (.fullReset _ s)
    · exact .inl (.refl _)
  case frameReceived =>
    simp only [exec, execFrameReceived] at e
    split at e <;> cases e <;> exact .inl (.of_rests (.of_zone fun _ => rfl))
  case interByteGap =>
    cases e
    exact .inl (.of_rests (.of_zone fun _ => rfl))
  case resetPinAssert =>
    have e : Host.Outcome.next (abandonAll s) = .next t := e
    injection e with e
    exact .inl (e ▸ .abandonAll s)
  case resetPinRelease high =>
    simp only [exec, execResetPinRelease] at e
    split at e <;> cases e
    · exact .inl (.fullReset _ s)
    · exact .inl (.refl _)
  case startupReady =>
    simp only [exec, execStartupReady] at e
    split at e <;> cases e <;> exact .inl (.of_rests (.of_zone fun _ => rfl))
  case closeStart =>
    simp only [exec, execCloseStart] at e
    split at e
    · split at e <;> cases e
      · exact .inl (.of_rests (.updZone s _ (f := fun zn => { zn with night := _ }) rfl))
      · exact .inl (.refl _)
    · cases e
      exact .inl (.refl _)
  case testRunStart =>
    simp only [exec, execTestRunStart] at e
    split at e
    · split at e <;> cases e <;> exact .inl (.of_rests (.of_zone fun _ => rfl))
    · cases e
      exact .inl (.refl _)
  case closeCompletion =>
    simp only [exec, execCloseCompletion] at e
    split at e
    · split at e <;> cases e
      · next inService => exact .inr (.closes _ inService)
      · exact .inl (.refl _)
    · cases e
      exact .inl (.refl _)
  case testRunCompletion =>
    simp only [exec, execTestRunCompletion] at e
    split at e
    · split at e <;> cases e <;> exact .inl (.of_rests (.of_zone fun _ => rfl))
    · cases e
      exact .inl (.refl _)

end Sys2Proof.Machine
end

section
/-! SUPPORT. R108, R122, R124, R130, R156: the bounds of the judgement, the causes and the history, which every move of a zone's
standing and every completion keeps; and the length of the hit list (R108, R123, R127). -/

namespace Sys2Proof.Machine

/-! ### The zone of a completion -/

theorem Zone.turnOver_standing (zn : Zone) (c : CloseItem) (offset : Int) (now : Nat) :
    (zn.turnOver c offset now).standing = zn.standing := by
  unfold Zone.turnOver
  dsimp only
  split <;> rfl

/-- R83, R84: what stages 3 and 4 make of the zone's standing; the history of stage 6 apart. -/
theorem Zone.closed_standing (zn : Zone) (c : CloseItem) (f : Figures) (v : Verdict) (now : Nat) :
    (zn.closed c f v now).standing = { (zn.evaluate c.night c.captured f).standing with
      judge := v.judge
      monitor := zn.stateAfter c.night.survey v
      ring := (zn.closed c f v now).ring
      unwritten := (zn.closed c f v now).unwritten } := by
  cases stops : c.night.survey || zn.stopPending with
  | true =>
    rw [Zone.closed, Zone.settle_stops (zn := zn.evaluate c.night c.captured f) stops, Zone.record_eq, Zone.stateAfter, stops]
    rfl
  | false =>
    rw [Zone.closed, Zone.settle_continues (zn := zn.evaluate c.night c.captured f) stops, Zone.record_eq, Zone.stateAfter, stops]
    rfl

theorem Zone.settle_history (zn : Zone) (v : Verdict) (survey : Bool) :
    (zn.settle v survey).ring = zn.ring ∧ (zn.settle v survey).unwritten = zn.unwritten := by
  unfold Zone.settle
  dsimp only
  split <;> exact ⟨rfl, rfl⟩

/-- R156 to R158: the ring holds at most 16 records, and the unwritten count stops at 65,535. -/
theorem Zone.record_bounds {zn : Zone} (ring : zn.ring.length ≤ 16) (unwritten : zn.unwritten ≤ 65535) (r : NightRecord)
    (freeze : Bool) : (zn.record r freeze).ring.length ≤ 16 ∧ (zn.record r freeze).unwritten ≤ 65535 := by
  rw [Zone.record_eq]
  dsimp only
  constructor
  · split
    · exact ring
    · exact List.length_take_le _ _
  · split
    · omega
    · split <;> omega

theorem Zone.closed_bounds {zn : Zone} (ring : zn.ring.length ≤ 16) (unwritten : zn.unwritten ≤ 65535) (c : CloseItem)
    (f : Figures) (v : Verdict) (now : Nat) :
    (zn.closed c f v now).ring.length ≤ 16 ∧ (zn.closed c f v now).unwritten ≤ 65535 := by
  obtain ⟨ringKept, unwrittenKept⟩ := (zn.evaluate c.night c.captured f).settle_history v c.night.survey
  exact Zone.record_bounds (ringKept ▸ ring) (unwrittenKept ▸ unwritten) _ _

/-- R118: the verdict of a completion on a zone. -/
def Zone.verdict (zn : Zone) (c : CloseItem) (f : Figures) : Verdict := verdictOf (zn.evaluate c.night c.captured f) c f

/-- R81: the zone after a completion that is not void. -/
def Zone.completed (zn : Zone) (c : CloseItem) (f : Figures) (offset : Int) (now : Nat) : Zone :=
  (zn.closed c f (zn.verdict c f) now).turnOver c offset now

theorem completeClose_completed {c : CloseItem} (unvoided : c.void = false) (s : State) (z : Nat) :
    (completeClose c s).zone z =
      if z = c.zone then
        (s.zone c.zone).completed c (figuresOf s c.zone c.night c.captured) s.settings.offset s.now
      else s.zone z := completeClose_zone unvoided s z

theorem completeClose_voided {c : CloseItem} (void : c.void = true) (s : State) : completeClose c s = { s with engine := none } := by
  rw [completeClose, if_pos void]

/-! ### What holds of every zone -/

/-- A fact that every move and every completion keeps holds of every zone after any command. -/
theorem exec_keeps_zones {P : Zone → Prop} (moves : ∀ zn zn', zn.Moves zn' → P zn → P zn')
    (completes : ∀ zn c f offset now, P zn → P (Zone.completed zn c f offset now)) {c : Instr} {s t : State}
    (ok : ∀ z, P (s.zone z)) (e : exec c s = .next t) : ∀ z, P (t.zone z) := by
  rcases exec_standings e with moved | run
  · exact fun z => moves _ _ (moved z) (ok z)
  · clear e
    induction run with
    | rests _ h => exact fun z => moves _ _ (.rests (h z)) (ok z)
    | closes c inService =>
      intro z
      cases void : c.void with
      | true =>
        rw [completeClose_voided void]
        exact ok z
      | false =>
        rw [completeClose_completed void]
        split
        · exact completes _ _ _ _ _ (ok c.zone)
        · exact ok z
    | trans _ _ ih₁ ih₂ => exact ih₂ (ih₁ ok)

theorem step_keeps_zones {P : Zone → Prop} (moves : ∀ zn zn', zn.Moves zn' → P zn → P zn')
    (completes : ∀ zn c f offset now, P zn → P (Zone.completed zn c f offset now)) {s t : State}
    (ok : ∀ z, P (s.zone z)) (e : step s = .next t) : ∀ z, P (t.zone z) :=
  step_keeps (P := fun s => ∀ z, P (s.zone z)) (fun _ _ h => h) (fun _ _ _ => exec_keeps_zones moves completes) ok e

/-- R44, R127: a message writes settings, and shortens the hit list where it lowers W. -/
theorem Zone.takeEntries_standing (zn : Zone) (es : List (Nat × Int)) :
    (zn.takeEntries es).standing = { zn.standing with
      params := (es.foldl Zone.takeEntry zn).params
      judge := { zn.judge with
        hitList :=
          if (es.foldl Zone.takeEntry zn).params.confirmWindow < zn.params.confirmWindow then
            zn.judge.hitList.drop (zn.judge.hitList.length - (es.foldl Zone.takeEntry zn).params.confirmWindow)
          else zn.judge.hitList } } := by
  have frame := zn.foldl_takeEntry_frame es
  rw [Zone.takeEntries_eq]
  generalize es.foldl Zone.takeEntry zn = written at frame ⊢
  have monitor : written.monitor = zn.monitor := (congrArg Zone.monitor frame :)
  have live : written.live = zn.live := (congrArg Zone.live frame :)
  have held : written.held = zn.held := (congrArg Zone.held frame :)
  have ring : written.ring = zn.ring := (congrArg Zone.ring frame :)
  have unwritten : written.unwritten = zn.unwritten := (congrArg Zone.unwritten frame :)
  simp only [Zone.standing, monitor, live, held, ring, unwritten]

/-! ### Causes (R130) -/

theorem CauseSet.subset_iff (a b : CauseSet) : a.subset b = true ↔ ∀ x ∈ a.toList, x ∈ b.toList := by
  have mem_diff (x : Cause) : x ∈ (a.diff b).toList ↔ x ∈ a.toList ∧ x ∉ b.toList := by
    cases x <;> simp [CauseSet.toList, CauseSet.diff]
  simp [CauseSet.subset, CauseSet.eq_none_iff, List.eq_nil_iff_forall_not_mem, mem_diff]

/-- R130: a zone whose live causes are held. -/
def Standing.CausesOk (st : Standing) : Prop := st.live.subset st.held = true

theorem Standing.CausesOk.of_moves {zn zn' : Zone} (h : zn.Moves zn') (ok : zn.standing.CausesOk) : zn'.standing.CausesOk := by
  cases h with
  | rests h => exact h ▸ ok
  | disarms m unarmed h => exact h ▸ ok
  | entries es h => exact h ▸ zn.takeEntries_standing es ▸ ok
  | starts r fields h => exact h ▸ ok
  | rebases f h => exact h ▸ ok
  | acknowledges h =>
    have kept : zn.live.subset (zn.held.inter zn.live) = true := by
      rw [CauseSet.subset_iff]
      exact fun x live => (CauseSet.mem_inter_toList _ _ x).mpr ⟨(CauseSet.subset_iff _ _).mp ok x live, live⟩
    exact h ▸ kept
  | clears was h => exact h ▸ (by decide : CauseSet.none.subset CauseSet.none = true)

/-- R83: a completion holds what it finds live. -/
theorem causesOk_completed (zn : Zone) (c : CloseItem) (f : Figures) (offset : Int) (now : Nat) :
    (zn.completed c f offset now).standing.CausesOk := by
  have held (a b : CauseSet) : b.subset (a.union b) = true := by
    rw [CauseSet.subset_iff]
    intro x
    cases x <;> simp [CauseSet.toList, CauseSet.union] <;> exact .inr
  rw [Zone.completed, Zone.turnOver_standing, Zone.closed_standing]
  exact held _ _

/-! ### The judgement (R108, R122, R124) -/

/-- R108, R122: a judgement state within its bounds, in a monitor state. -/
structure Judgement.OkIn (j : Judgement) (m : MonitorState) : Prop where
  baseline : ∀ b, j.baseline = some b → b ≤ 20000000
  learning : j.learningCount ≤ 30
  dark : j.darkCount ≤ 15
  watch : m = .watch → HitFlag.hit ∉ j.hitList
  leak : m = .leak → j.leakHeld = true
  armed : m.armed = true → j.baseline.isSome

/-- R108, R122, R156: a standing within its bounds. -/
structure Standing.JudgeOk (st : Standing) : Prop where
  judge : st.judge.OkIn st.monitor
  ring : st.ring.length ≤ 16
  unwritten : st.unwritten ≤ 65535

theorem Zone.judgeOk_iff (zn : Zone) : zn.JudgeOk ↔ zn.standing.JudgeOk := by
  constructor
  · rintro ⟨baseline, learning, dark, watch, leak, armed, ring, unwritten⟩
    exact ⟨⟨baseline, learning, dark, watch, leak, armed⟩, ring, unwritten⟩
  · rintro ⟨⟨baseline, learning, dark, watch, leak, armed⟩, ring, unwritten⟩
    exact ⟨baseline, learning, dark, watch, leak, armed, ring, unwritten⟩

namespace Judgement

variable {j : Judgement} {m : MonitorState}

/-- R107: outside WATCH, SUSPECT and LEAK the bounds alone remain. -/
theorem OkIn.unarmed (ok : j.OkIn m) {m' : MonitorState} (unarmed : m'.armed = false) : j.OkIn m' where
  baseline := ok.baseline
  learning := ok.learning
  dark := ok.dark
  watch h := by simp [h, MonitorState.armed] at unarmed
  leak h := by simp [h, MonitorState.armed] at unarmed
  armed h := by simp [unarmed] at h

/-- R119 -/
theorem darkAfter_le (m : MonitorState) (survey excluded valid : Bool) {count : Nat} (bound : count ≤ 15) :
    darkAfter m survey excluded valid count ≤ 15 := by
  unfold darkAfter
  split
  · exact bound
  · split
    · omega
    · split <;> omega

/-- R124: a zone that a flag leaves in WATCH holds no hit, and one that it leaves in LEAK was there or entered it. -/
theorem trackFlag_ok (armed : m.armed = true) {hits : List HitFlag} (calm : m = .watch → HitFlag.hit ∉ hits) (run : Nat)
    (flag : HitFlag) (w c : Nat) :
    let track := trackFlag m hits run flag w c
    (track.state = .watch → HitFlag.hit ∉ track.hits) ∧ (track.state = .leak → m = .leak ∨ track.leakEntered = true) := by
  dsimp only
  by_cases leaks : m = .leak
  · subst leaks
    rw [trackFlag_leak]
    refine ⟨fun watch => ?_, fun _ => .inl rfl⟩
    split
    · simp_all
    · split <;> simp_all
  · have unconfirmed : m = .watch ∧ HitFlag.hit ∉ hits ∨ m = .suspect := by
      cases m <;> simp_all [MonitorState.armed]
    rw [trackFlag_unconfirmed unconfirmed]
    split
    · simp
    · split
      · next none => simp [hitCount_eq_zero_iff.mp none]
      · simp

/-- R120 -/
theorem OkIn.learnNight (ok : j.OkIn m) (f : Int) (p : Params) : (learnNight j f p).judge.OkIn (learnNight j f p).monitor := by
  have bounded : ∀ b, j.baseline.elim (max 0 (min 20000000 f)).toNat (fun b => updateBaseline b f p.weightShift) = b →
      b ≤ 20000000 := by
    rintro b rfl
    cases j.baseline with
    | none => exact clampBaseline_le f
    | some b => exact updateBaseline_le b f _
  rw [learnNight_eq]
  dsimp only
  split
  · exact ⟨fun b h => bounded b (Option.some.inj h), Nat.min_le_left _ _, ok.dark, fun _ => List.not_mem_nil, nofun, fun _ => rfl⟩
  · exact ⟨fun b h => bounded b (Option.some.inj h), Nat.min_le_left _ _, ok.dark, nofun, nofun, fun _ => rfl⟩

/-- R122 to R124 -/
theorem OkIn.judgeArmed (ok : j.OkIn m) (armed : m.armed = true) (f : Int) (p : Params) :
    (judgeArmed m j f p).judge.OkIn (judgeArmed m j f p).monitor := by
  obtain ⟨b, baseline⟩ := Option.isSome_iff_exists.mp (ok.armed armed)
  obtain ⟨watch, leak⟩ := trackFlag_ok armed ok.watch j.nonHitRun (hitOf b f p.relEighths p.absThreshold) p.confirmWindow p.clearRun
  rw [judgeArmed_eq baseline]
  refine ⟨fun b' moved => ?_, ok.learning, ok.dark, watch, fun h => ?_, fun _ => rfl⟩
  · cases moved
    split
    · exact updateBaseline_le b f _
    · exact ok.baseline b baseline
  · rcases leak h with was | entered
    · simp [ok.leak was]
    · simp [entered]

/-- R118: what stage 4's judgement leaves is within its bounds. -/
theorem OkIn.judgeNight (ok : j.OkIn m) (survey excluded valid negative : Bool) (mnf : Option Int) (p : Params) :
    (judgeNight m j survey excluded valid negative mnf p).judge.OkIn
      (judgeNight m j survey excluded valid negative mnf p).monitor := by
  unfold Machine.judgeNight
  split
  · exact ok
  · split
    · next judged =>
      split
      · exact ok.learnNight _ p
      · next other =>
        have armed : m.armed = true := by cases m <;> simp_all [judgeable, MonitorState.monitored, MonitorState.armed]
        exact ok.judgeArmed armed _ p
    · exact ok

end Judgement

/-- R111: the bounds that ZONE_START's fields keep. -/
theorem Zone.startAfresh_ok (zn : Zone) {r : ZoneStartReq} (fields : zoneStartFault r = none) :
    (zn.startAfresh r.seed r.mode).judge.OkIn (zn.startAfresh r.seed r.mode).monitor := by
  have valid : ZoneValid r.zone := by
    by_contra bad
    simp [zoneStartFault, mt (zoneOk_iff r.zone).mp bad] at fields
  have mode : r.mode ≤ 1 := by
    by_contra bad
    simp [zoneStartFault_mode valid (Nat.lt_of_not_le bad)] at fields
  have seed : r.SeedOk := by
    by_contra bad
    simp [zoneStartFault_seed valid mode, bad] at fields
  unfold Zone.startAfresh
  dsimp only
  refine ⟨seed.1, Nat.zero_le _, Nat.zero_le _, fun _ => List.not_mem_nil, ?_, ?_⟩
  · split <;> exact nofun
  · split
    · next resume => exact fun _ => Option.isSome_iff_ne_none.mpr (seed.2 resume)
    · exact nofun

theorem Standing.JudgeOk.of_moves {zn zn' : Zone} (h : zn.Moves zn') (ok : zn.standing.JudgeOk) : zn'.standing.JudgeOk := by
  obtain ⟨judge, ring, unwritten⟩ := ok
  cases h with
  | rests h => exact h ▸ ⟨judge, ring, unwritten⟩
  | disarms m unarmed h => exact h ▸ ⟨judge.unarmed unarmed, ring, unwritten⟩
  | entries es h =>
    rw [h, Zone.takeEntries_standing]
    refine ⟨⟨judge.baseline, judge.learning, judge.dark, fun watch => ?_, judge.leak, judge.armed⟩, ring, unwritten⟩
    have calm : HitFlag.hit ∉ zn.judge.hitList := judge.watch watch
    dsimp only
    split
    · exact fun h => calm (List.mem_of_mem_drop h)
    · exact calm
  | starts r fields h => exact h ▸ ⟨zn.startAfresh_ok fields, ring, unwritten⟩
  | rebases f h =>
    refine h ▸ ⟨⟨fun b same => ?_, judge.learning, judge.dark, fun _ => List.not_mem_nil, nofun, fun _ => rfl⟩, ring, unwritten⟩
    cases same
    exact clampBaseline_le f
  | acknowledges h =>
    refine h ▸ ⟨⟨judge.baseline, judge.learning, judge.dark, judge.watch, fun leak => ?_, judge.armed⟩, ring, unwritten⟩
    have leaks : zn.monitor = .leak := leak
    have was : zn.judge.leakHeld = true := judge.leak leaks
    have still : (zn.judge.leakHeld && decide (zn.monitor = .leak)) = true := by simp [was, leaks]
    exact still
  | clears was h =>
    exact h ▸ ⟨⟨nofun, Nat.zero_le _, Nat.zero_le _, nofun, nofun, nofun⟩, Nat.zero_le _, Nat.zero_le _⟩

/-- R83, R84, R156: a completion keeps the bounds. -/
theorem Standing.JudgeOk.completed {zn : Zone} (ok : zn.standing.JudgeOk) (c : CloseItem) (f : Figures) (offset : Int) (now : Nat) :
    (zn.completed c f offset now).standing.JudgeOk := by
  obtain ⟨judge, ring, unwritten⟩ := ok
  have evaluated : (zn.evaluate c.night c.captured f).judge.OkIn zn.monitor :=
    ⟨judge.baseline, judge.learning, Judgement.darkAfter_le _ _ _ _ judge.dark, judge.watch, judge.leak, judge.armed⟩
  have judged : (zn.verdict c f).judge.OkIn (zn.verdict c f).monitor := evaluated.judgeNight _ _ _ _ _ _
  obtain ⟨ringKept, unwrittenKept⟩ := Zone.closed_bounds ring unwritten c f (zn.verdict c f) now
  rw [Zone.completed, Zone.turnOver_standing, Zone.closed_standing]
  refine ⟨?_, ringKept, unwrittenKept⟩
  dsimp only
  unfold Zone.stateAfter
  split
  · exact judged.unarmed rfl
  · exact judged

/-- Settles O54: both invariants zone by zone, by the moves of a zone's standing and the completion. -/
theorem judgementAndCausesStayWithinBounds : Obligations.JudgementAndCausesStayWithinBounds := by
  unfold Obligations.JudgementAndCausesStayWithinBounds
  refine ⟨fun s t ok e z => ?_, fun s t ok e => ?_⟩
  · exact (Zone.judgeOk_iff _).mpr (step_keeps_zones (P := fun zn => zn.standing.JudgeOk) (fun _ _ h ok => ok.of_moves h)
      (fun _ c f offset now ok => ok.completed c f offset now) (fun z => (Zone.judgeOk_iff _).mp (ok z)) e z)
  · exact step_keeps_zones (P := fun zn => zn.standing.CausesOk) (fun _ _ h ok => ok.of_moves h)
      (fun zn c f offset now _ => causesOk_completed zn c f offset now) ok e

end Sys2Proof.Machine
end

section
/-! SUPPORT. R108, R123, R127: no hit list holds more than W flags; what a close in service captured stays within W while its zone
is armed. -/

namespace Sys2Proof.Machine

/-! ### The hit list (R123) -/

/-- R124: the moves take the list with the flag appended, or clear it. -/
theorem trackFlag_hits (state : MonitorState) (hits : List HitFlag) (run : Nat) (flag : HitFlag) (w c : Nat) :
    (trackFlag state hits run flag w c).hits = appendHit hits flag w ∨ (trackFlag state hits run flag w c).hits = [] := by
  have suspect (t : Track) : (stepSuspect flag t).hits = t.hits := by unfold stepSuspect; split <;> rfl
  have confirm (t : Track) : (stepConfirm w t).hits = t.hits := by unfold stepConfirm; split <;> rfl
  have relax (t : Track) : (stepRelax t).hits = t.hits := by unfold stepRelax; split <;> rfl
  by_cases leaks : state = .leak
  · rw [leaks, trackFlag_leak]
    split
    · exact .inl rfl
    · split
      · exact .inr rfl
      · exact .inl rfl
  · rw [trackFlag, if_neg leaks, relax, confirm, suspect]
    exact .inl rfl

theorem trackFlag_hits_length (state : MonitorState) {hits : List HitFlag} {w limit : Nat} (fits : hits.length ≤ limit)
    (room : w ≤ limit) (run : Nat) (flag : HitFlag) (c : Nat) : (trackFlag state hits run flag w c).hits.length ≤ limit := by
  rcases trackFlag_hits state hits run flag w c with appended | cleared
  · exact appended ▸ appendHit_length_le hits flag fits room
  · exact cleared ▸ Nat.zero_le _

/-- R120, R123: learning clears the list or leaves it, and judging keeps it within W. -/
theorem judgeNight_hits_length {m : MonitorState} {j : Judgement} {p : Params} {limit : Nat} (fits : j.hitList.length ≤ limit)
    (room : m.armed = true → p.confirmWindow ≤ limit) (survey excluded valid negative : Bool) (mnf : Option Int) :
    (judgeNight m j survey excluded valid negative mnf p).judge.hitList.length ≤ limit := by
  unfold judgeNight
  split
  · exact fits
  · split
    · next judged =>
      split
      · rw [learnNight_eq]
        dsimp only
        split
        · exact Nat.zero_le _
        · exact fits
      · next other =>
        have armed : m.armed = true := by cases m <;> simp_all [judgeable, MonitorState.monitored, MonitorState.armed]
        exact trackFlag_hits_length m fits (room armed) _ _ _
    · exact fits

/-- R108: the hit list of a standing within its W. -/
def Standing.HitsOk (st : Standing) : Prop := st.judge.hitList.length ≤ st.params.confirmWindow

theorem Standing.HitsOk.of_moves {zn zn' : Zone} (h : zn.Moves zn') (ok : zn.standing.HitsOk) : zn'.standing.HitsOk := by
  cases h with
  | rests h => exact h ▸ ok
  | disarms m unarmed h => exact h ▸ ok
  | entries es h =>
    have fits : zn.judge.hitList.length ≤ zn.params.confirmWindow := ok
    rw [h, Zone.takeEntries_standing, Standing.HitsOk]
    dsimp only
    split
    · rw [List.length_drop]
      omega
    · omega
  | starts r fields h => exact h ▸ Nat.zero_le _
  | rebases f h => exact h ▸ Nat.zero_le _
  | acknowledges h => exact h ▸ ok
  | clears was h => exact h ▸ Nat.zero_le _

theorem Standing.HitsOk.completed {zn : Zone} (ok : zn.standing.HitsOk) {c : CloseItem}
    (captured : zn.monitor.armed = true → c.captured.confirmWindow ≤ zn.params.confirmWindow) (f : Figures) (offset : Int)
    (now : Nat) : (zn.completed c f offset now).standing.HitsOk := by
  rw [Zone.completed, Zone.turnOver_standing, Zone.closed_standing]
  exact judgeNight_hits_length (j := (zn.evaluate c.night c.captured f).judge) ok captured _ _ _ _ _

/-! ### What a close in service captured (R80, R127) -/

/-- R127: while the close of an armed zone is in service, the W it captured is no more than the setting. -/
def CapturedOk (s : State) : Prop :=
  ∀ c, s.engine = some (.close c) → c.void = false → (s.zone c.zone).monitor.armed = true →
    c.captured.confirmWindow ≤ (s.zone c.zone).params.confirmWindow

/-- Where no close in service is new, its zone is not newly armed and its W not lowered. -/
theorem CapturedOk.of_zone {s t : State} (ok : CapturedOk s)
    (engine : ∀ c, t.engine = some (.close c) → c.void = false → s.engine = some (.close c))
    (zone : ∀ c, s.engine = some (.close c) → c.void = false → (t.zone c.zone).monitor.armed = true →
      (s.zone c.zone).monitor.armed = true ∧ (s.zone c.zone).params.confirmWindow ≤ (t.zone c.zone).params.confirmWindow) :
    CapturedOk t := by
  intro c service unvoided armed
  obtain ⟨was, raised⟩ := zone c (engine c service unvoided) unvoided armed
  exact (ok c (engine c service unvoided) unvoided was).trans raised

/-- A change of one zone, under the item in service as it is. -/
theorem CapturedOk.of_oneZone {s t : State} (ok : CapturedOk s) (z : Nat)
    (engine : ∀ c, t.engine = some (.close c) → c.void = false → s.engine = some (.close c))
    (others : ∀ j, j ≠ z → t.zone j = s.zone j)
    (here : ∀ c, s.engine = some (.close c) → c.void = false → c.zone = z → (t.zone z).monitor.armed = true →
      (s.zone z).monitor.armed = true ∧ (s.zone z).params.confirmWindow ≤ (t.zone z).params.confirmWindow) : CapturedOk t := by
  refine ok.of_zone engine fun c service unvoided armed => ?_
  by_cases same : c.zone = z
  · rw [same] at armed ⊢
    exact here c service unvoided same armed
  · rw [others _ same] at armed ⊢
    exact ⟨armed, Nat.le_refl _⟩

/-- With no close in service there is nothing to ask. -/
theorem CapturedOk.of_item {t : State} {item : Option Item} (engine : t.engine = item) (other : ∀ c, item ≠ some (.close c)) :
    CapturedOk t := fun c service => absurd (engine.symm.trans service) (other c)

theorem CapturedOk.of_none {t : State} (idle : t.engine = none) : CapturedOk t := of_item idle fun _ => nofun

theorem CapturedOk.of_parts {s t : State} (ok : CapturedOk s) (engine : t.engine = s.engine) (zones : t.zones = s.zones) :
    CapturedOk t := by
  have zone (j : Nat) : t.zone j = s.zone j := by simp only [State.zone, zones]
  exact ok.of_oneZone 0 (fun c service _ => engine ▸ service) (fun j _ => zone j) fun _ _ _ _ armed => by
    rw [zone] at armed ⊢
    exact ⟨armed, Nat.le_refl _⟩

/-- R127: a message that passes does not lower the W of an armed zone. -/
theorem zoneSetRefusal_none_window {r : ZoneSetReq} {s : State} (passes : zoneSetRefusal r s = none)
    (armed : (s.zone r.zone).monitor.armed = true) :
    (s.zone r.zone).params.confirmWindow ≤ formedWindow (s.zone r.zone) r.entries := by
  by_contra lower
  unfold zoneSetRefusal at passes
  dsimp only at passes
  simp only [Nat.lt_of_not_le lower, armed, decide_true, Bool.and_self, if_true] at passes
  repeat' split at passes
  all_goals cases passes

/-- R44: the W that a message leaves is the one that its checks formed. -/
theorem foldl_takeEntry_window {es : List (Nat × Int)} (apart : (es.map (·.1)).Nodup) (ok : ∀ e ∈ es, ZoneEntryOk e) (zn : Zone) :
    (es.foldl Zone.takeEntry zn).params.confirmWindow = formedWindow zn es := by
  have written := Zone.setting_foldl_takeEntry apart ok zn 12
  rw [if_pos (.inl (by decide))] at written
  have formed := formedWindow_eq ok zn
  rw [Zone.formed, zn.upcoming_of_lt (by decide)] at formed
  exact Int.ofNat_inj.mp (written.trans formed.symm)

section
variable {s : State} (ok : CapturedOk s)
include ok

/-- R127 -/
theorem CapturedOk.zoneSet {r : ZoneSetReq} (passes : zoneSetRefusal r s = none) :
    CapturedOk (s.updZone r.zone fun zn => zn.takeEntries r.entries) := by
  refine ok.of_oneZone r.zone (fun _ service _ => service) (fun j other => State.zone_updZone_ne s _ other) fun c _ _ _ armed => ?_
  have standing := (s.zone r.zone).takeEntries_standing r.entries
  have monitor : ((s.zone r.zone).takeEntries r.entries).monitor = (s.zone r.zone).monitor := congrArg Standing.monitor standing
  have params : ((s.zone r.zone).takeEntries r.entries).params = (r.entries.foldl Zone.takeEntry (s.zone r.zone)).params :=
    congrArg Standing.params standing
  obtain ⟨apart, entriesOk, -, -⟩ := zoneSetRefusal_none passes
  rw [State.zone_updZone_self, monitor] at armed
  rw [State.zone_updZone_self, params, foldl_takeEntry_window apart entriesOk]
  exact ⟨armed, zoneSetRefusal_none_window passes armed⟩

/-- R48: no close of a zone in STANDBY is in service. -/
theorem CapturedOk.begin (close : CloseOk s) {z : Nat} (survey : Bool) (monitor : MonitorState) (judge : Judgement)
    (idle : (s.zone z).monitor = .standby) :
    CapturedOk (createNight z survey (s.updZone z fun zn => { zn with judge := judge, monitor := monitor })) := by
  have beside : BesideZones s (createNight z survey (s.updZone z fun zn => { zn with judge := judge, monitor := monitor })) :=
    (BesideZones.updZone s z _).trans (.createNight z survey _)
  obtain ⟨-, ⟨-, -, holds⟩, life, -⟩ := close
  refine ok.of_oneZone z (fun _ service _ => beside.engine ▸ service)
    (fun j other => by rw [createNight_zone, if_neg other, State.zone_updZone_ne s _ other]) fun c service unvoided here _ => ?_
  have night : (s.zone c.zone).night = some c.night := holds c service unvoided
  rw [here, (life z).1.mp idle] at night
  cases night

/-- R112: in STANDBY the zone is not armed. -/
theorem CapturedOk.stop (z : Nat) : CapturedOk ((discardNight z s).updZone z Zone.enterStandby) := by
  have engine : ((discardNight z s).updZone z Zone.enterStandby).engine = s.engine := (BesideZones.freeNight z s).engine
  refine ok.of_oneZone z (fun _ service _ => engine ▸ service)
    (fun j other => by rw [State.zone_updZone_ne _ _ other, discardNight_zone, if_neg other]) fun _ _ _ _ armed => ?_
  rw [State.zone_updZone_self] at armed
  cases armed

/-- R90, R117: a close that RESET_ZONE leaves unvoided was in service. -/
theorem CapturedOk.reset (z : Nat) : CapturedOk ((dropNight z s).updZone z Zone.clearAll) := by
  have unvoided {c : CloseItem} (service : voidItem z s.engine = some (.close c)) (kept : c.void = false) :
      s.engine = some (.close c) := by
    rcases item : s.engine with - | (was | -) <;> rw [item] at service <;> cases service
    split at kept
    · cases kept
    · next other => rw [if_neg other]
  refine ok.of_oneZone z (fun c service kept => ?_)
    (fun j other => by rw [State.zone_updZone_ne _ _ other, dropNight_zone, if_neg other]) fun _ _ _ _ armed => ?_
  · rw [State.updZone_engine, dropNight_engine] at service
    split at service
    · exact unvoided service kept
    · exact service
  · rw [State.zone_updZone_self] at armed
    cases armed

omit ok in
/-- R80: a close that starts captures the settings as they stand. -/
theorem CapturedOk.startClose (z : Nat) (nt : Night) : CapturedOk (startClose z nt s) := by
  intro c service _ _
  have item : Item.close ⟨z, { nt with state := .closing }, false, (s.zone z).params⟩ = .close c := Option.some.inj service
  have here : (Machine.startClose z nt s).zone z = { s.zone z with night := some { nt with state := .closing } } :=
    State.zone_updZone_self s z fun zn => { zn with night := some { nt with state := .closing } }
  cases item
  rw [here]

/-- A change of one zone's record that neither arms it nor touches its settings. -/
theorem CapturedOk.updZone (z : Nat) {f : Zone → Zone} (params : (f (s.zone z)).params = (s.zone z).params)
    (armed : (f (s.zone z)).monitor.armed = true → (s.zone z).monitor.armed = true) : CapturedOk (s.updZone z f) := by
  refine ok.of_oneZone z (fun _ service _ => service) (fun j other => State.zone_updZone_ne s _ other) fun _ _ _ _ now => ?_
  rw [State.zone_updZone_self] at now ⊢
  exact ⟨armed now, params ▸ Nat.le_refl _⟩

end

/-- R80, R90, R110, R112, R115, R127: every move keeps what a close in service captured within W while its zone is armed. -/
theorem NightMoves.capturedOk {s t : State} (h : NightMoves s t) (close : CloseOk s) (ok : CapturedOk s) : CapturedOk t := by
  induction h with
  | quiet h =>
    refine ok.of_zone (fun c service _ => h.engine ▸ service) fun c _ _ armed => ?_
    have zone := h.zones c.zone
    rw [zone.monitor] at armed
    exact ⟨armed, (congrArg Params.confirmWindow zone.params).ge⟩
  | trans moves _ ih₁ ih₂ => exact ih₂ (moves.closeOk close) (ih₁ close ok)
  | partSet es passes => exact ok.of_parts rfl rfl
  | zoneSet r passes => exact ok.zoneSet passes
  | queues z cause waits =>
    refine ok.of_oneZone z (fun _ service _ => service) (fun j other => by rw [queueNight_zone, if_neg other]) ?_
    rw [queueNight_zone, if_pos rfl]
    exact fun _ _ _ _ armed => ⟨armed, Nat.le_refl _⟩
  | begins z survey monitor judge valid idle active surveys => exact ok.begin close survey monitor judge idle
  | stops z valid free => exact ok.stop z
  | stopsLater z closing => exact ok.updZone z rfl id
  | rebases z f armed => exact ok.updZone z rfl fun _ => armed
  | resets z valid => exact ok.reset z
  | closeStarts z nt ready => exact .startClose z nt
  | testStarts test ready => exact .of_item rfl fun _ => nofun
  | @closes s c inService => exact .of_none (completeClose_frame c s).engine
  | testEnds test inService => exact .of_none rfl
  | testQueued test idle => exact ok.of_parts rfl rfl
  | testCancelled test result queued => exact ok.of_parts rfl rfl
  | @abandons s =>
    obtain ⟨l, halted⟩ := abandonAll_eq s
    exact .of_none (by rw [halted, State.halted_engine])

/-! ### Steps -/

/-- What holds of the hit lists, beside the agreement of the close engine. -/
structure HitsInStep (s : State) : Prop where
  close : CloseOk s
  hits : ∀ z, (s.zone z).standing.HitsOk
  captured : CapturedOk s

theorem HitsInStep.engineRun {s t : State} (h : EngineRun s t) (ok : HitsInStep s) : HitsInStep t := by
  induction h with
  | rests moves h => exact ⟨moves.closeOk ok.close, fun z => (ok.hits z).of_moves (.rests (h z)), moves.capturedOk ok.close ok.captured⟩
  | @closes s c inService =>
    have moves := NightMoves.closes c inService
    refine ⟨moves.closeOk ok.close, fun z => ?_, moves.capturedOk ok.close ok.captured⟩
    cases void : c.void with
    | true =>
      rw [completeClose_voided void]
      exact ok.hits z
    | false =>
      rw [completeClose_completed void]
      split
      · exact (ok.hits c.zone).completed (ok.captured c (closeInService_some.mp inService) void) _ _ _
      · exact ok.hits z
  | trans _ _ ih₁ ih₂ => exact ih₂ (ih₁ ok)

theorem exec_keeps_hits {c : Instr} {s t : State} (ok : HitsInStep s) (e : exec c s = .next t) : HitsInStep t := by
  rcases exec_standings e with moved | run
  · refine ⟨exec_keeps_close ok.close e, fun z => (ok.hits z).of_moves (moved z), ?_⟩
    rcases exec_moves e with moves | ⟨l, rfl | rfl⟩
    · exact moves.capturedOk ok.close ok.captured
    · exact .of_none rfl
    · exact .of_none rfl
  · exact ok.engineRun run

/-- Settles O55: zone by zone, with what a close in service captured and the agreement of the close engine. -/
theorem hitListNeverExceedsW : Obligations.HitListNeverExceedsW := by
  unfold Obligations.HitListNeverExceedsW
  rintro s t close ⟨hits, captured⟩ e
  have after := step_keeps (P := HitsInStep) (fun _ _ ⟨close, hits, captured⟩ => ⟨close, hits, captured⟩)
    (fun _ _ _ => exec_keeps_hits) ⟨close, hits, captured⟩ e
  exact ⟨after.hits, after.captured⟩

end Sys2Proof.Machine
end

section
/-! SUPPORT. R149, R171, R184, R185: a recomputed group's signals, and the three events of the reset pin. -/

namespace Sys2Proof.Machine

/-! ### The signals of a recomputed group (R148, R149) -/

theorem combine_iff (mode : GroupMode) (values : List Bool) : combine mode values = true ↔ Combines mode values := by
  cases mode with
  | any => simp [combine, Combines]
  | all => simp [combine, Combines, List.isEmpty_eq_false_iff]

/-- R149: a group's values, formed from zones, are what its modes and enables make of them. -/
theorem signalsOk_recomputed {s t : State} (same : ∀ z, t.zone z = s.zone z) (gr : Group) : SignalsOk t (gr.recomputed s) := by
  have values : gr.recomputed t = gr.recomputed s := recomputed_congr same gr
  rw [← values]
  refine ⟨?_, ?_⟩
  · rw [← combine_iff]
    exact Bool.and_eq_true_iff
  · rw [← combine_iff]
    exact Bool.and_eq_true_iff

/-! ### The pin (R184) -/

/-- R184: the link while the pin is asserted. -/
def Link.abandoned (l : Link) : Link := { l with power := .inReset, receiver := .hunt, reply := none, restart := none }

theorem abandonAll_halted (s : State) : abandonAll s = (recomputeAll (abandonNights s)).halted s.link.abandoned := rfl

theorem abandonAll_group (s : State) {g : Nat} (known : g ∈ groupNumbers) :
    (abandonAll s).group g = ((abandonNights s).group g).recomputed (abandonNights s) := by
  obtain ⟨-, -, group⟩ := recomputeAll_cases (abandonNights s)
  have halted (u : State) (l : Link) : (u.halted l).group g = u.group g := rfl
  rw [abandonAll_halted, halted, group, if_pos known]

theorem abandonAll_zone_eq (s : State) (z : Nat) : (abandonAll s).zone z = (abandonNights s).zone z := by
  rw [abandonAll_halted, State.halted_zone, (recomputeAll_cases _).2.1]

/-- Settles O18: the assertion by what is abandoned, the release and readiness by their conditions. -/
theorem pinResetSequence : Obligations.PinResetSequence := by
  unfold Obligations.PinResetSequence
  refine ⟨fun s => ⟨abandonAll s, rfl, ?_⟩, fun high s => ?_, fun s => ?_⟩
  · have signals : ∀ g ∈ groupNumbers, SignalsOk (abandonAll s) ((abandonAll s).group g) := fun g known => by
      rw [abandonAll_group s known]
      exact signalsOk_recomputed (abandonAll_zone_eq s) _
    have zones : ∀ z, ZoneValid z → ((abandonAll s).zone z).Idle := fun z valid => by
      rw [abandonAll_zone, if_pos valid]
      exact ⟨rfl, rfl, rfl⟩
    refine ⟨?_, ?_, ?_, ?_, ?_, ?_, ?_, ?_, zones, signals⟩ <;> rw [abandonAll_halted] <;> rfl
  · by_cases asserted : s.link.power = .inReset
    · rw [if_pos asserted]
      exact if_pos asserted
    · rw [if_neg asserted]
      exact if_neg asserted
  · by_cases starting : s.link.power = .starting
    · rw [if_pos starting]
      exact if_pos starting
    · rw [if_neg starting]
      exact if_neg starting

end Sys2Proof.Machine
end


section
/-! SUPPORT. R115, R116, R133, R134: what ACCEPT_LEVEL and ACK_ZONE leave. -/

namespace Sys2Proof.Machine

theorem raiseChange_frame (z : Nat) (before : MonitorState) (s : State) : { raiseChange z before s with link := s.link } = s := by
  unfold raiseChange State.raiseIf
  split <;> rfl

theorem refreshOnSummary_zone (z : Nat) (before s : State) (j : Nat) : (refreshOnSummary z before s).zone j = s.zone j := by
  unfold refreshOnSummary
  split
  · rfl
  · exact refreshGroups_zone z s j

theorem refreshOnSummary_frame (z : Nat) (before s : State) :
    { refreshOnSummary z before s with link := s.link, groups := s.groups } = s := by
  unfold refreshOnSummary
  split
  · rfl
  · exact refreshGroups_frame z s

/-! ### ACCEPT_LEVEL (R115) -/

theorem acceptLevel_zone (z : Nat) (f : Int) (s : State) (j : Nat) :
    (acceptLevel z f s).zone j = if j = z then (s.zone z).rebase f else s.zone j := by
  unfold acceptLevel
  dsimp only
  rw [apply_ite (fun u : State => u.zone j), refreshGroups_zone, ite_self, raiseChange_zone, State.zone_updZone]

/-- R115: beside its zone, notices and groups at most change. -/
theorem acceptLevel_frame (z : Nat) (f : Int) (s : State) :
    { acceptLevel z f s with link := s.link, zones := s.zones, groups := s.groups } = s := by
  have changed := raiseChange_frame z (s.zone z).monitor (s.updZone z fun zn => zn.rebase f)
  unfold acceptLevel
  dsimp only
  generalize raiseChange z (s.zone z).monitor (s.updZone z fun zn => zn.rebase f) = u at changed
  have accepted : { u with link := s.link, zones := s.zones, groups := s.groups } = s :=
    (congrArg (fun v : State => { v with zones := s.zones, groups := s.groups }) changed :)
  split
  · exact accepted
  · exact (congrArg (fun v : State => { v with link := s.link, zones := s.zones, groups := s.groups })
      (refreshGroups_frame z u) :).trans accepted

/-- R115: what an ACCEPT_LEVEL of a zone in range answers. -/
theorem acceptLevelAnswer_eq {z : Nat} (valid : ZoneValid z) (s : State) :
    acceptLevelAnswer z s =
      if (s.zone z).monitor.armed = false then refuse s .notActive
      else (s.zone z).judge.lastMnf.elim (refuse s .noNight) fun f => okWith (acceptLevel z f s) (putNat 4 (clampBaseline f)) := by
  unfold acceptLevelAnswer
  rw [(zoneOk_iff z).mpr valid, if_neg (by decide)]
  cases (s.zone z).monitor.armed
  case false => rfl
  case true => cases (s.zone z).judge.lastMnf <;> rfl

/-! ### ACK_ZONE (R116, R134) -/

theorem ackZone_zone (z : Nat) (s : State) (j : Nat) :
    (ackZone z s).zone j = if j = z then (s.zone z).acknowledge else s.zone j := by
  rw [ackZone, refreshOnSummary_zone, State.zone_updZone]

/-- R116, R150: beside its zone, notices and groups at most change. -/
theorem ackZone_frame (z : Nat) (s : State) :
    { ackZone z s with link := s.link, zones := s.zones, groups := s.groups } = s :=
  (congrArg (fun v : State => { v with zones := s.zones, groups := s.groups })
    (refreshOnSummary_frame z s (s.updZone z Zone.acknowledge)) :)

theorem ackZoneAnswer_eq {z : Nat} (valid : ZoneValid z) (s : State) :
    ackZoneAnswer z s = okWith (ackZone z s)
      (putBool (s.zone z).acknowledge.judge.leakHeld ++ putNat 1 (s.zone z).acknowledge.held.code) := by
  unfold ackZoneAnswer
  rw [(zoneOk_iff z).mpr valid, if_neg (by decide), ackZone_zone, if_pos rfl]

/-- Settles O44: the two effects by the zone they write and what they leave, the refusals by the answer. -/
theorem acceptAndAcknowledge : Obligations.AcceptAndAcknowledge := by
  unfold Obligations.AcceptAndAcknowledge
  have parsed {z : Nat} (valid : ZoneValid z) : parseNumber 1 (putNat 1 z) = some z := parseNumber_putNat (by omega)
  refine ⟨fun tag z f s valid armed night takes => ?_, fun tag z s valid takes => ⟨fun unarmed => ?_, fun armed night => ?_⟩,
    fun tag z s valid takes => ?_⟩
  · have answer : acceptLevelAnswer z s.popIntake = okWith (acceptLevel z f s.popIntake) (putNat 4 (clampBaseline f)) := by
      rw [acceptLevelAnswer_eq valid, State.popIntake_zone, if_neg (by simp [armed]), night]
      rfl
    obtain ⟨t, served, reply, rest⟩ := serve_done (owner := acceptLevelAnswer) takes (parsed valid) answer
    have zone (j : Nat) : t.zone j = (acceptLevel z f s.popIntake).zone j := (congrArg (fun v : State => v.zone j) rest :)
    have frame := (congrArg (fun v : State => { v with link := s.link, zones := s.zones, groups := s.groups }) rest :).trans
      (congrArg (fun v : State => { v with link := s.link }) (acceptLevel_frame z f s.popIntake))
    refine ⟨t, served, reply, ?_, fun j other => ?_, frame⟩
    · rw [zone, acceptLevel_zone, if_pos rfl]
      rfl
    · rw [zone, acceptLevel_zone, if_neg other]
      rfl
  · have answer : acceptLevelAnswer z s.popIntake = refuse s.popIntake .notActive := by
      rw [acceptLevelAnswer_eq valid, State.popIntake_zone, if_pos unarmed]
    exact serve_answer (owner := acceptLevelAnswer) takes (parsed valid) answer
  · have answer : acceptLevelAnswer z s.popIntake = refuse s.popIntake .noNight := by
      rw [acceptLevelAnswer_eq valid, State.popIntake_zone, if_neg (by simp [armed]), night]
      rfl
    exact serve_answer (owner := acceptLevelAnswer) takes (parsed valid) answer
  · obtain ⟨t, served, reply, rest⟩ :=
      serve_done (owner := ackZoneAnswer) takes (parsed valid) (ackZoneAnswer_eq valid s.popIntake)
    have zone (j : Nat) : t.zone j = (ackZone z s.popIntake).zone j := (congrArg (fun v : State => v.zone j) rest :)
    have frame := (congrArg (fun v : State => { v with link := s.link, zones := s.zones, groups := s.groups }) rest :).trans
      (congrArg (fun v : State => { v with link := s.link }) (ackZone_frame z s.popIntake))
    refine ⟨t, served, reply, ?_, summaryOf_iff _ _, fun j other => ?_, frame⟩
    · rw [zone, ackZone_zone, if_pos rfl]
      rfl
    · rw [zone, ackZone_zone, if_neg other]
      rfl

end Sys2Proof.Machine
end

section
/-! SUPPORT. R109, R150, R177, R178: the notices that a zone command raises. -/

namespace Sys2Proof.Machine

/-! ### Changes and their notices -/

/-- R109, R178: the notice of a change of zone `z`'s monitor state, where the zone's settings select it. -/
def stateNews (s t : State) (z : Nat) : List Notice :=
  if picksChange (t.zone z).params (s.zone z).monitor (t.zone z).monitor then
    [.zoneState z (s.zone z).monitor (t.zone z).monitor] else []

/-- R109, R150: from one state to another, the notices of zone `z`'s change and of its groups' changes are raised, in this
order, and no other. -/
structure Announces (z : Nat) (s t : State) : Prop where
  notices : t.link.notices = ((stateNews s t z ++ groupNews s t z).foldl State.raise s).link.notices
  overflow : t.link.overflow = ((stateNews s t z ++ groupNews s t z).foldl State.raise s).link.overflow

/-- R109: from one state to another, no group changes, and of the link the notice of zone `z`'s change is raised alone. -/
structure AnnouncesState (z : Nat) (s t : State) : Prop where
  groups : ∀ g, t.group g = s.group g
  link : t.link = ((stateNews s t z).foldl State.raise s).link

theorem picksChange_self (p : Params) (m : MonitorState) : picksChange p m m = false := by simp [picksChange]

/-- R178: no setting selects a change between STANDBY and a state other than SUSPECT and LEAK. -/
theorem picksChange_standby (p : Params) {m : MonitorState} (calm : m ≠ .suspect ∧ m ≠ .leak) :
    picksChange p .standby m = false := by
  simp [picksChange, calm]

theorem stateNews_of_unselected {s t : State} {z : Nat}
    (unselected : picksChange (t.zone z).params (s.zone z).monitor (t.zone z).monitor = false) : stateNews s t z = [] := by
  rw [stateNews, unselected]
  rfl

theorem groupNews_of_same {s t : State} (groups : ∀ g, t.group g = s.group g) (z : Nat) : groupNews s t z = [] := by
  simp [groupNews, groups]

namespace AnnouncesState

variable {z : Nat} {s t : State}

/-- A change that no setting selects, and nothing raised. -/
theorem of_unselected (unselected : picksChange (t.zone z).params (s.zone z).monitor (t.zone z).monitor = false)
    (groups : t.groups = s.groups) (link : t.link = s.link) : AnnouncesState z s t := by
  refine ⟨fun g => by simp only [State.group, groups], ?_⟩
  rw [stateNews_of_unselected unselected]
  exact link

/-- R109: the change is compared and raised, after nothing else was. -/
theorem raiseChange (groups : t.groups = s.groups) (link : t.link = s.link) :
    AnnouncesState z s (raiseChange z (s.zone z).monitor t) := by
  have news : stateNews s (Machine.raiseChange z (s.zone z).monitor t) z = stateNews s t z := by
    rw [stateNews, raiseChange_zone, stateNews]
  refine ⟨fun g => ?_, ?_⟩
  · have kept := congrArg (fun u : State => u.group g) (raiseChange_frame z (s.zone z).monitor t)
    exact (kept :).trans (by simp only [State.group, groups])
  · rw [news, Machine.raiseChange, raiseIf_eq_foldl, changeSelected_eq]
    exact foldl_raise_link_congr _ link

/-- Nothing but the state's change is announced where no group is recomputed. -/
theorem announces (h : AnnouncesState z s t) : Announces z s t := by
  constructor <;> rw [groupNews_of_same h.groups, List.append_nil, h.link]

/-- R150: the zone's groups are recomputed after that, and their changes raised. -/
theorem refreshGroups (h : AnnouncesState z s t) : Announces z s (refreshGroups z t) := by
  have group (g : Nat) : (Machine.refreshGroups z t).group g = (recomputeGroups z t).group g :=
    (congrArg (fun u : State => u.group g) (raiseGroupChanges_frame (changedGroups z t) (recomputeGroups z t)) :)
  have state : stateNews s (Machine.refreshGroups z t) z = stateNews s t z := by
    rw [stateNews, refreshGroups_zone, stateNews]
  have link : (Machine.refreshGroups z t).link =
      ((stateNews s t z ++ groupNews s (Machine.refreshGroups z t) z).foldl State.raise s).link := by
    rw [← changedGroups_news h.groups group, List.foldl_append]
    unfold Machine.refreshGroups
    rw [raiseGroupChanges_eq_foldl]
    exact foldl_raise_link_congr _ ((recomputeGroups_link z t).trans h.link)
  constructor <;> rw [state, link]

/-- R150: the zone's groups are recomputed where its summary changed. -/
theorem refreshOnSummary (h : AnnouncesState z s t) (before : State) : Announces z s (refreshOnSummary z before t) := by
  unfold Machine.refreshOnSummary
  split
  · exact h.announces
  · exact h.refreshGroups

end AnnouncesState

/-! ### The owners -/

namespace Announces

/-- A refusal changes nothing and raises nothing. -/
theorem refl (z : Nat) (s : State) : Announces z s s :=
  (AnnouncesState.of_unselected (picksChange_self _ _) rfl rfl).announces

theorem createNight_link (z : Nat) (survey : Bool) (s : State) :
    (createNight z survey s).groups = s.groups ∧ (createNight z survey s).link = s.link := by
  have work : NightWork s (createNight z survey s) := (NightWork.updZone s z _).trans (.updAttachedCovers _ z _)
  exact ⟨work.groups, work.link⟩

theorem dropNight_link (z : Nat) (s : State) : (dropNight z s).groups = s.groups ∧ (dropNight z s).link = s.link := by
  have freed : (freeNight z s).groups = s.groups ∧ (freeNight z s).link = s.link :=
    ⟨(NightWork.freeNight z s).groups, (NightWork.freeNight z s).link⟩
  unfold dropNight
  split
  · exact ⟨rfl, rfl⟩
  · split
    · rw [voidClose_eq]
      exact freed
    · exact freed

/-- R44: a message leaves the monitor state. -/
theorem zoneSetAnswer (r : ZoneSetReq) (s : State) : Announces r.zone s (zoneSetAnswer r s).state := by
  unfold Machine.zoneSetAnswer
  split
  · exact refl r.zone s
  · exact refl r.zone s
  · have written : AnnouncesState r.zone s (s.updZone r.zone fun zn => zn.takeEntries r.entries) := by
      have monitor : ((s.zone r.zone).takeEntries r.entries).monitor = (s.zone r.zone).monitor :=
        congrArg Standing.monitor ((s.zone r.zone).takeEntries_standing r.entries)
      refine .of_unselected ?_ rfl rfl
      rw [State.zone_updZone_self, monitor]
      exact picksChange_self _ _
    exact written.refreshOnSummary s

/-- R111, R113: a night is created for a zone that leaves STANDBY. -/
theorem begin {z : Nat} {s : State} (standby : (s.zone z).monitor = .standby) (survey : Bool) {f : Zone → Zone}
    (calm : (f (s.zone z)).monitor ≠ .suspect ∧ (f (s.zone z)).monitor ≠ .leak) :
    Announces z s (refreshGroups z (createNight z survey (s.updZone z f))) := by
  obtain ⟨groups, link⟩ := createNight_link z survey (s.updZone z f)
  refine AnnouncesState.refreshGroups (.of_unselected ?_ groups link)
  rw [createNight_zone, if_pos rfl, State.zone_updZone_self, standby]
  exact picksChange_standby _ calm

theorem zoneStartAnswer (r : ZoneStartReq) (s : State) : Announces r.zone s (zoneStartAnswer r s).state := by
  unfold Machine.zoneStartAnswer
  split
  · exact refl r.zone s
  · split
    · exact refl r.zone s
    · next passes =>
      have calm : (if r.mode = 1 then MonitorState.watch else .learning) ≠ .suspect ∧
          (if r.mode = 1 then MonitorState.watch else .learning) ≠ .leak := by split <;> decide
      exact begin (NightMoves.startRefusal_none passes) false (f := fun zn => zn.startAfresh r.seed r.mode) calm

theorem zoneSurveyAnswer (z : Nat) (s : State) : Announces z s (zoneSurveyAnswer z s).state := by
  unfold Machine.zoneSurveyAnswer
  split
  · exact refl z s
  · split
    · exact refl z s
    · next passes =>
      exact begin (NightMoves.startRefusal_none passes) true (f := fun zn => { zn with monitor := .survey })
        ⟨nofun, nofun⟩

/-- R89, R112: a stop that waits for the close changes no state yet; one that discards the night announces STANDBY. -/
theorem zoneStopAnswer (z : Nat) (s : State) : Announces z s (zoneStopAnswer z s).state := by
  unfold Machine.zoneStopAnswer
  split
  · exact refl z s
  · split
    · exact refl z s
    · split
      · refine AnnouncesState.announces (.of_unselected ?_ rfl rfl)
        rw [okWith_state, State.zone_updZone_self]
        exact picksChange_self _ _
      · have freed := NightWork.freeNight z s
        exact (AnnouncesState.raiseChange (t := (discardNight z s).updZone z Zone.enterStandby)
          freed.groups freed.link).refreshGroups

/-- R115: a zone in WATCH stays there, and its groups as they are. -/
theorem acceptLevelAnswer (z : Nat) (s : State) : Announces z s (acceptLevelAnswer z s).state := by
  unfold Machine.acceptLevelAnswer
  split
  · exact refl z s
  · split
    · exact refl z s
    · split
      · exact refl z s
      · next f _ =>
        have changed : AnnouncesState z s (Machine.raiseChange z (s.zone z).monitor (s.updZone z fun zn => zn.rebase f)) :=
          .raiseChange rfl rfl
        rw [okWith_state]
        unfold acceptLevel
        dsimp only
        split
        · exact changed.announces
        · exact changed.refreshGroups

/-- R116: an acknowledgement leaves the monitor state. -/
theorem ackZoneAnswer (z : Nat) (s : State) : Announces z s (ackZoneAnswer z s).state := by
  unfold Machine.ackZoneAnswer
  split
  · exact refl z s
  · have acknowledged : AnnouncesState z s (s.updZone z Zone.acknowledge) := by
      refine .of_unselected ?_ rfl rfl
      rw [State.zone_updZone_self]
      exact picksChange_self _ _
    exact acknowledged.refreshOnSummary s

/-- R117: a reset discards the night before the zone's change to STANDBY is announced. -/
theorem resetZoneAnswer (z : Nat) (s : State) : Announces z s (resetZoneAnswer z s).state := by
  unfold Machine.resetZoneAnswer
  split
  · exact refl z s
  · obtain ⟨groups, link⟩ := dropNight_link z s
    exact (AnnouncesState.raiseChange (t := (dropNight z s).updZone z Zone.clearAll) groups link).refreshGroups

/-! ### The requests -/

theorem foldl_raise_popIntake (news : List Notice) (s : State) :
    news.foldl State.raise s.popIntake = (news.foldl State.raise s).popIntake := by
  induction news generalizing s with
  | nil => rfl
  | cons n rest ih => exact ih (s.raise n)

/-- The frame that leaves the buffer and the reply are no notices. -/
theorem serve {kind tag : Byte} {payload : List Byte} {owner : List Byte → State → Answer} {z : Nat} {s t : State}
    (h : ∀ u, Announces z u (owner payload u).state) (e : serve kind tag payload owner s = .next t) : Announces z s t := by
  rcases serve_cases e with ⟨-, rfl⟩ | ⟨-, rfl⟩
  · obtain ⟨notices, overflow⟩ := h s.popIntake
    rw [foldl_raise_popIntake] at notices overflow
    exact ⟨notices, overflow⟩
  · exact refl z _

/-- A request that is parsed whole, the zone it names its first field. -/
theorem serve_withFields {α : Type} {kind tag : Byte} {payload : List Byte} {parse : List Byte → Option α} {zone : α → Nat}
    {owner : α → State → Answer} {s t : State} (named : ∀ r, parse payload = some r → zone r = fieldAt payload 0 1)
    (h : ∀ r u, Announces (zone r) u (owner r u).state)
    (e : Machine.serve kind tag payload (fun p s => withFields (parse p) s fun r => owner r s) s = .next t) :
    Announces (fieldAt payload 0 1) s t := by
  refine serve (fun u => ?_) e
  cases parsed : parse payload with
  | none => exact refl _ u
  | some r => exact named r parsed ▸ h r u

/-- A request of one number, its zone. -/
theorem serve_zone {kind tag : Byte} {payload : List Byte} {owner : Nat → State → Answer} {s t : State}
    (h : ∀ z u, Announces z u (owner z u).state)
    (e : Machine.serve kind tag payload (fun p s => withFields (parseNumber 1 p) s fun z => owner z s) s = .next t) :
    Announces (fieldAt payload 0 1) s t := by
  refine serve_withFields (zone := id) (fun z parsed => ?_) h e
  simp only [parseNumber, Option.ite_none_right_eq_some, Option.some.injEq] at parsed
  obtain ⟨one, rfl⟩ := parsed
  rw [fieldAt, slice, List.drop_zero, List.take_of_length_le (Nat.le_of_eq one), id]

end Announces

theorem parseZoneSet_zone {p : List Byte} {r : ZoneSetReq} (parsed : parseZoneSet p = some r) : r.zone = fieldAt p 0 1 := by
  unfold parseZoneSet at parsed
  split at parsed
  · cases parsed
  · split at parsed
    · split at parsed <;> cases parsed
      rfl
    · cases parsed
      rfl

theorem parseZoneStart_zone {p : List Byte} {r : ZoneStartReq} (parsed : parseZoneStart p = some r) : r.zone = fieldAt p 0 1 := by
  unfold parseZoneStart at parsed
  split at parsed
  · obtain ⟨seed, -, rfl⟩ := Option.map_eq_some_iff.mp parsed
    rfl
  · cases parsed

/-- The seven zone commands of which an accepted one raises notices (R109, R150). -/
def zoneCommandKinds : List Nat := [0x20, 0x21, 0x22, 0x23, 0x26, 0x27, 0x28]

/-- R109, R150, R178: whatever a zone command answers, it raises the notices of its changes. -/
theorem exec_announces {c : Instr} {f : Frame} {s t : State} (framed : c.frame? = some f)
    (zoneCommand : f.kind.toNat ∈ zoneCommandKinds) (e : exec c s = .next t) : Announces (fieldAt f.payload 0 1) s t := by
  cases c <;> cases framed
  case zoneSet => exact .serve_withFields (zone := (·.zone)) (fun _ => parseZoneSet_zone) Announces.zoneSetAnswer e
  case zoneStart => exact .serve_withFields (zone := (·.zone)) (fun _ => parseZoneStart_zone) Announces.zoneStartAnswer e
  case zoneStop => exact .serve_zone Announces.zoneStopAnswer e
  case zoneSurvey => exact .serve_zone Announces.zoneSurveyAnswer e
  case acceptLevel => exact .serve_zone Announces.acceptLevelAnswer e
  case ackZone => exact .serve_zone Announces.ackZoneAnswer e
  case resetZone => exact .serve_zone Announces.resetZoneAnswer e
  case unknownKind kind tag payload =>
    have known : catalogue.contains kind.toNat = true := by
      have all : ∀ k ∈ zoneCommandKinds, catalogue.contains k = true := by decide
      exact all _ zoneCommand
    have untaken : s = t := Host.Outcome.next.inj ((if_pos known).symm.trans e)
    exact untaken ▸ .refl _ s
  all_goals
    dsimp only at zoneCommand
    exact absurd zoneCommand (by decide)

/-- Settles O46: the zone commands one by one; a refused one changes and raises nothing, so the answer's code plays no part. -/
theorem zoneCommandsRaiseTheirNotices : Obligations.ZoneCommandsRaiseTheirNotices := by
  unfold Obligations.ZoneCommandsRaiseTheirNotices
  intro c f s t r framed _ zoneCommand _ e _ _
  obtain ⟨notices, overflow⟩ := exec_announces framed zoneCommand e
  exact ⟨notices, overflow⟩

end Sys2Proof.Machine
end

section
/-! SUPPORT. CLEAR_CAPTURE, REPORT_HOLD, REPORT_RELEASE and UNFREEZE (R138, R143, R144, R159): what each answers. -/

namespace Sys2Proof.Machine

/-- R143: a set already held refuses another. -/
theorem reportHoldAnswer_held {s : State} (held : s.report ≠ none) : reportHoldAnswer s = refuse s .alreadyHeld :=
  if_pos (Option.isSome_iff_ne_none.mpr held)

/-- R143: with no set held, the snapshot is taken and its stamp is the reply. -/
theorem reportHoldAnswer_free {s : State} (free : s.report = none) :
    reportHoldAnswer s = okWith { s with report := some (reportOf s) } (putOptNat 4 s.clock) :=
  if_neg (by simp [free])

/-- R144: with no set held, there is none to release. -/
theorem reportReleaseAnswer_free {s : State} (free : s.report = none) : reportReleaseAnswer s = refuse s .notHeld :=
  if_pos (Option.isNone_iff_eq_none.mpr free)

/-- R144: the held set is discarded. -/
theorem reportReleaseAnswer_held {s : State} (held : s.report ≠ none) :
    reportReleaseAnswer s = okWith { s with report := none } [] :=
  if_neg (mt Option.isNone_iff_eq_none.mp held)

/-- R159: a zone in range loses its frozen flag, and the reply is built from the zone as it stood. -/
theorem unfreezeAnswer_valid {z : Nat} (valid : ZoneValid z) (s : State) :
    unfreezeAnswer z s = okWith (s.updZone z fun zn => { zn with frozen := false }) (unfreezeBody (s.zone z)) := by
  rw [unfreezeAnswer, (zoneOk_iff z).mpr valid, if_neg (by decide)]

/-- Settles O59: each request by its answer; the two of the report set by whether one is held. -/
theorem captureReportAndUnfreeze : Obligations.CaptureReportAndUnfreeze := by
  unfold Obligations.CaptureReportAndUnfreeze
  refine fun tag s => ⟨fun takes => ?_, fun takes => ⟨fun held => ?_, fun free => ?_⟩,
    fun takes => ⟨fun free => ?_, fun held => ?_⟩, fun z valid takes => ?_⟩
  · exact serve_answer (owner := fun _ => clearCaptureAnswer) takes parseEmpty_nil rfl
  · exact serve_answer (owner := fun _ => reportHoldAnswer) takes parseEmpty_nil
      (reportHoldAnswer_held (s := s.popIntake) held)
  · exact serve_answer (owner := fun _ => reportHoldAnswer) takes parseEmpty_nil
      (reportHoldAnswer_free (s := s.popIntake) free)
  · exact serve_answer (owner := fun _ => reportReleaseAnswer) takes parseEmpty_nil
      (reportReleaseAnswer_free (s := s.popIntake) free)
  · exact serve_answer (owner := fun _ => reportReleaseAnswer) takes parseEmpty_nil
      (reportReleaseAnswer_held (s := s.popIntake) held)
  · exact serve_answer (owner := unfreezeAnswer) takes (parseNumber_putNat (by omega))
      (unfreezeAnswer_valid valid s.popIntake)

end Sys2Proof.Machine
end

section
/-! SUPPORT. R147 to R150, R171, R177, R183: what a command leaves of the link and of the groups, said once. -/

namespace Sys2Proof.Machine

/-! ### What a group reads of its zones (R148) -/

/-- R148: all that a group's signals read of a zone. -/
def Zone.signals (zn : Zone) : MonitorState × Bool := (zn.monitor, zn.summary)

theorem Zone.signals_eq {zn zn' : Zone} (monitor : zn'.monitor = zn.monitor) (summary : zn'.summary = zn.summary) :
    zn'.signals = zn.signals := Prod.ext monitor summary

/-- R87: the turn to the next night. -/
theorem Zone.turnOver_signals (zn : Zone) (c : CloseItem) (offset : Int) (now : Nat) :
    (zn.turnOver c offset now).signals = zn.signals := by
  unfold Zone.turnOver
  dsimp only
  split <;> rfl

/-- R149: a group's values stay right while its members' signals stay. -/
theorem signalsOk_of_members {s t : State} {gr : Group} (ok : SignalsOk s gr)
    (same : ∀ z ∈ gr.members, (t.zone z).signals = (s.zone z).signals) : SignalsOk t gr := by
  have monitor : ∀ z ∈ gr.members, (t.zone z).monitor = (s.zone z).monitor := fun z member =>
    congrArg Prod.fst (same z member)
  have summary : ∀ z ∈ gr.members, (t.zone z).summary = (s.zone z).summary := fun z member =>
    congrArg Prod.snd (same z member)
  have counted : gr.members.filter (fun z => (t.zone z).monitor.monitored) =
      gr.members.filter (fun z => (s.zone z).monitor.monitored) :=
    List.filter_congr fun z member => by rw [monitor z member]
  have leak := List.map_congr_left (l := gr.members.filter fun z => (s.zone z).monitor.monitored)
    (f := fun z => decide ((t.zone z).monitor = .leak)) (g := fun z => decide ((s.zone z).monitor = .leak))
    fun z member => by rw [monitor z (List.mem_of_mem_filter member)]
  have integrity := List.map_congr_left (l := gr.members.filter fun z => (s.zone z).monitor.monitored)
    (f := fun z => (t.zone z).summary) (g := fun z => (s.zone z).summary)
    fun z member => summary z (List.mem_of_mem_filter member)
  rw [SignalsOk, counted, leak, integrity]
  exact ok

/-! ### Changes that keep what groups say -/

/-- R147: two groups with the same members, modes and enables, whatever their values. -/
def Group.SameDefinition (gr gr' : Group) : Prop :=
  { gr' with leakValue := gr.leakValue, integValue := gr.integValue } = gr

theorem Group.SameDefinition.trans {a b c : Group} (h : a.SameDefinition b) (k : b.SameDefinition c) : a.SameDefinition c :=
  have first : { b with leakValue := a.leakValue, integValue := a.integValue } = a := h
  (congrArg (fun gr : Group => { gr with leakValue := a.leakValue, integValue := a.integValue }) k :).trans first

/-- R147, R149: no group's definition changes, and the groups' values stay right where they were. -/
structure GroupsKeep (s t : State) : Prop where
  definitions : ∀ g, (s.group g).SameDefinition (t.group g)
  signals : GroupsOk s → GroupsOk t

namespace GroupsKeep

theorem trans {s t u : State} (h : GroupsKeep s t) (k : GroupsKeep t u) : GroupsKeep s u :=
  ⟨fun g => (h.definitions g).trans (k.definitions g), k.signals ∘ h.signals⟩

/-- A change of neither groups nor what they read. -/
theorem of_same {s t : State} (groups : t.groups = s.groups) (same : ∀ z, (t.zone z).signals = (s.zone z).signals) :
    GroupsKeep s t := by
  have group (g : Nat) : t.group g = s.group g := by rw [State.group, groups, State.group]
  refine ⟨fun g => ?_, fun ok g known => ?_⟩
  · rw [group]
    rfl
  · rw [group]
    exact signalsOk_of_members (ok g known) fun z _ => same z

/-- R150: the groups of a zone are recomputed once nothing but that zone has changed. -/
theorem of_recomputed {s u t : State} {z : Nat} (groups : u.groups = s.groups)
    (others : ∀ j, j ≠ z → (u.zone j).signals = (s.zone j).signals) (same : ∀ j, (t.zone j).signals = (u.zone j).signals)
    (group : ∀ g, t.group g = (recomputeGroups z u).group g) : GroupsKeep s t := by
  have before (g : Nat) : u.group g = s.group g := by rw [State.group, groups, State.group]
  have after (g : Nat) : t.group g = if g ∈ groupsOf u z then (s.group g).recomputed u else s.group g := by
    rw [group, recomputeGroups, foldGroups_group, before]
  refine ⟨fun g => ?_, fun ok g known => ?_⟩
  · rw [after]
    split <;> rfl
  · rw [after]
    split
    · exact signalsOk_of_members (signalsOk_recomputed (fun _ => rfl) _) fun j _ => same j
    · next unlisted =>
      have absent : z ∉ (s.group g).members := by simpa [groupsOf, known, before] using unlisted
      exact signalsOk_of_members (ok g known) fun j member =>
        (same j).trans (others j fun here => absent (here ▸ member))

/-- R107, R149: every group is recomputed, whatever the zones became. -/
theorem of_recomputedAll {s u t : State} (groups : u.groups = s.groups) (zone : ∀ z, t.zone z = u.zone z)
    (group : ∀ g, t.group g = (recomputeAll u).group g) : GroupsKeep s t := by
  obtain ⟨-, -, all⟩ := recomputeAll_cases u
  have before (g : Nat) : u.group g = s.group g := by rw [State.group, groups, State.group]
  refine ⟨fun g => ?_, fun _ g known => ?_⟩
  · rw [group, all, before]
    split <;> rfl
  · rw [group, all, if_pos known]
    exact signalsOk_recomputed zone _

end GroupsKeep

/-! ### Changes beside the link, the groups and what they read -/

/-- A change that leaves the link, the groups and what the groups read of the zones. -/
structure Aside (s t : State) : Prop where
  link : t.link = s.link
  groups : t.groups = s.groups
  signals : ∀ z, (t.zone z).signals = (s.zone z).signals

namespace Aside

theorem of_eq {s t : State} (h : t = s) : Aside s t := h ▸ ⟨rfl, rfl, fun _ => rfl⟩

theorem refl (s : State) : Aside s s := of_eq rfl

theorem trans {s t u : State} (h : Aside s t) (k : Aside t u) : Aside s u :=
  ⟨k.link.trans h.link, k.groups.trans h.groups, fun z => (k.signals z).trans (h.signals z)⟩

theorem foldl {α : Type} {f : State → α → State} (h : ∀ s a, Aside s (f s a)) (l : List α) (s : State) :
    Aside s (l.foldl f s) := by
  induction l generalizing s with
  | nil => exact refl s
  | cons a rest ih => exact (h s a).trans (ih (f s a))

theorem updZone (s : State) (z : Nat) {f : Zone → Zone} (h : ∀ zn, (f zn).signals = zn.signals) :
    Aside s (s.updZone z f) := by
  refine ⟨rfl, rfl, fun j => ?_⟩
  rw [State.zone_updZone]
  split
  · next here => exact here ▸ h _
  · rfl

theorem updInside (s : State) (z : Nat) {f : Zone → Zone} (h : ∀ zn, (f zn).signals = zn.signals) :
    Aside s (s.updInside z f) := by
  unfold State.updInside
  split
  · exact refl s
  · exact updZone s z h

theorem updMeter (s : State) (ch : Nat) (f : Meter → Meter) : Aside s (s.updMeter ch f) := by
  have frame := State.updMeter_frame s ch f
  exact ⟨(congrArg State.link frame :), (congrArg State.groups frame :),
    fun z => (congrArg (fun u : State => (u.zone z).signals) frame :)⟩

theorem updAttachedCovers (s : State) (z : Nat) (f : Cover → Cover) : Aside s (s.updAttachedCovers z f) :=
  foldl (fun s (e : Attachment) => updMeter s e.channel fun m => m.updCover e.side f) _ s

/-! ### Nights (Chapter 3) -/

theorem createNight (z : Nat) (survey : Bool) (s : State) : Aside s (createNight z survey s) :=
  (updZone s z (f := fun zn => zn.withNewNight s.settings.offset s.now survey) fun _ => rfl).trans (updAttachedCovers _ z _)

theorem freeNight (z : Nat) (s : State) : Aside s (freeNight z s) :=
  (updZone s z (f := fun zn => { zn with night := none }) fun _ => rfl).trans (updAttachedCovers _ z _)

theorem discardNight (z : Nat) (s : State) : Aside s (discardNight z s) := (freeNight z s).trans ⟨rfl, rfl, fun _ => rfl⟩

theorem queueNight (z : Nat) (cause : CloseCause) (s : State) : Aside s (queueNight z cause s) :=
  (updZone s z (f := fun zn =>
    { zn with night := zn.night.map fun nt => { nt with state := .queued, cause := some cause } }) fun _ => rfl).trans
    ⟨rfl, rfl, fun _ => rfl⟩

theorem dropNight (z : Nat) (s : State) : Aside s (dropNight z s) := by
  unfold Machine.dropNight
  split
  · exact refl s
  · split
    · rw [voidClose_eq]
      exact (freeNight z s).trans ⟨rfl, rfl, fun _ => rfl⟩
    · exact discardNight z s

theorem markZone (clock : Nat) (s : State) (z : Nat) : Aside s (markZone clock s z) := by
  have ended : Aside s (s.updZone z fun zn => { zn with night := zn.night.map fun nt => nt.endWindow clock }) :=
    updZone s z fun _ => rfl
  unfold Machine.markZone
  dsimp only
  split
  · split
    · exact ended.trans (queueNight z _ _)
    · split
      · exact ended.trans (queueNight z _ _)
      · exact ended
  · exact ended

theorem startClose (z : Nat) (nt : Night) (s : State) : Aside s (startClose z nt s) :=
  (updZone s z (f := fun zn => { zn with night := some { nt with state := .closing } }) fun _ => rfl).trans
    ⟨rfl, rfl, fun _ => rfl⟩

theorem forceCloseAnswer (z : Nat) (s : State) : Aside s (forceCloseAnswer z s).state := by
  unfold Machine.forceCloseAnswer
  split
  · exact refl s
  · split
    · exact refl s
    · split
      case h_2 => exact queueNight z .forced s
      all_goals exact refl s

theorem excludeNightAnswer (z : Nat) (s : State) : Aside s (excludeNightAnswer z s).state := by
  unfold Machine.excludeNightAnswer
  split
  · exact refl s
  · split
    · exact refl s
    · next nt _ =>
      split
      · exact updZone s z (f := fun zn => { zn with night := some { nt with excluded := true } }) fun _ => rfl
      · exact refl s

/-! ### Readings (Chapters 2 and 4) -/

theorem takeSide (iv : Interval) (side : Side) (s : State) : Aside s (takeSide iv side s) := by
  unfold Machine.takeSide
  split
  · exact refl s
  · split
    · exact refl s
    · refine (updZone s _ fun zn => ?_).trans (updMeter _ _ _)
      unfold Zone.takePortions
      split
      · split <;> rfl
      · rfl

theorem apportion (iv : Interval) (s : State) : Aside s (apportion iv s) := by
  unfold Machine.apportion
  split
  · exact refl s
  · exact ((takeSide iv .fromSide s).trans (takeSide iv .toSide _)).trans (foldl (fun s z => queueNight z .complete s) _ _)

theorem againstBase (ch : Nat) (m : Meter) (r : ReadingRecord) (s : State) : Aside s (againstBase ch m r s).state := by
  unfold Machine.againstBase
  split
  · exact updMeter _ _ _
  · split
    · exact refl s
    · split
      · exact refl s
      · unfold formInterval
        split
        · exact ⟨rfl, rfl, fun _ => rfl⟩
        · exact (apportion _ s).trans (updMeter _ _ _)

theorem takeRecord (r : ReadingRecord) (s : State) : Aside s (takeRecord r s).state := by
  unfold Machine.takeRecord
  split
  · exact refl s
  · split
    · exact refl s
    · split
      · exact refl s
      · split
        · exact refl s
        · exact againstBase _ _ r s

/-! ### The directory (Chapter 1) -/

theorem detachMeter (ch : Nat) (m : Meter) (s : State) : Aside s (detachMeter ch m s) :=
  (updInside s _ (f := fun zn => zn.detach ch) fun _ => rfl).trans (updInside _ _ (f := fun zn => zn.detach ch) fun _ => rfl)

theorem relistMeter (ch : Nat) (m : Meter) (r : AttachReq) (s : State) : Aside s (relistMeter ch m r s) :=
  ((detachMeter ch m s).trans (updInside _ _ (f := fun zn => zn.attachEntry ⟨ch, .fromSide⟩) fun _ => rfl)).trans
    (updInside _ _ (f := fun zn => zn.attachEntry ⟨ch, .toSide⟩) fun _ => rfl)

theorem addMeterAnswer (r : AddMeterReq) (s : State) : Aside s (addMeterAnswer r s).state := by
  unfold Machine.addMeterAnswer
  split
  · exact refl s
  · split
    · exact refl s
    · split <;> exact ⟨rfl, rfl, fun _ => rfl⟩

theorem removeMeterAnswer (serial : Nat) (s : State) : Aside s (removeMeterAnswer serial s).state := by
  unfold Machine.removeMeterAnswer
  split
  · exact refl s
  · split
    · exact refl s
    · split
      · exact refl s
      · exact (detachMeter _ _ s).trans ⟨rfl, rfl, fun _ => rfl⟩

theorem replaceAnswer (r : ReplaceReq) (s : State) : Aside s (replaceAnswer r s).state := by
  unfold Machine.replaceAnswer
  split
  · exact refl s
  · split
    · exact refl s
    · split
      · exact refl s
      · split
        · exact refl s
        · split <;> exact ⟨rfl, rfl, fun _ => rfl⟩

theorem attachAnswer (r : AttachReq) (s : State) : Aside s (attachAnswer r s).state := by
  unfold Machine.attachAnswer
  split
  · exact refl s
  · split
    · exact refl s
    · split
      · exact refl s
      · split
        · exact refl s
        · exact (relistMeter _ _ r s).trans ⟨rfl, rfl, fun _ => rfl⟩

/-! ### The reads: whatever they answer, the state stays -/

theorem meterReadAnswer (r : MeterReadReq) (s : State) : Aside s (meterReadAnswer r s).state := by
  unfold Machine.meterReadAnswer
  split
  · exact refl s
  · split <;> exact refl s

theorem zoneReadAnswer (z : Nat) (s : State) : Aside s (zoneReadAnswer z s).state := by
  unfold Machine.zoneReadAnswer
  split <;> exact refl s

theorem zoneProfileAnswer (z : Nat) (s : State) : Aside s (zoneProfileAnswer z s).state := by
  unfold Machine.zoneProfileAnswer
  split
  · exact refl s
  · split <;> exact refl s

theorem groupReadAnswer (g : Nat) (s : State) : Aside s (groupReadAnswer g s).state := by
  unfold Machine.groupReadAnswer
  split <;> exact refl s

theorem historyReadAnswer (r : HistoryReadReq) (s : State) : Aside s (historyReadAnswer r s).state := by
  unfold Machine.historyReadAnswer
  split
  · exact refl s
  · split <;> exact refl s

/-! ### The settings of the part, the frozen flag, the report set and the self-test -/

theorem partSetAnswer (r : PartSetReq) (s : State) : Aside s (partSetAnswer r s).state := by
  unfold Machine.partSetAnswer
  split
  · exact refl s
  · split <;> exact ⟨rfl, rfl, fun _ => rfl⟩

theorem unfreezeAnswer (z : Nat) (s : State) : Aside s (unfreezeAnswer z s).state := by
  unfold Machine.unfreezeAnswer
  split
  · exact refl s
  · exact updZone s z (f := fun zn => { zn with frozen := false }) fun _ => rfl

theorem reportHoldAnswer (s : State) : Aside s (reportHoldAnswer s).state := by
  unfold Machine.reportHoldAnswer
  split <;> exact ⟨rfl, rfl, fun _ => rfl⟩

theorem reportReleaseAnswer (s : State) : Aside s (reportReleaseAnswer s).state := by
  unfold Machine.reportReleaseAnswer
  split <;> exact ⟨rfl, rfl, fun _ => rfl⟩

theorem testStartAnswer (test : Nat) (s : State) : Aside s (testStartAnswer test s).state := by
  unfold Machine.testStartAnswer
  split
  · exact refl s
  · split <;> exact ⟨rfl, rfl, fun _ => rfl⟩

theorem testCancelAnswer (s : State) : Aside s (testCancelAnswer s).state := by
  unfold Machine.testCancelAnswer
  split <;> exact ⟨rfl, rfl, fun _ => rfl⟩

end Aside

/-! ### Changes that raise notices -/

/-- A change that of the link writes notices and their overflow marker at most, and keeps what the groups say. -/
structure Announced (s t : State) : Prop where
  link : SameLink s t
  groups : GroupsKeep s t

theorem Aside.announced {s t : State} (h : Aside s t) : Announced s t :=
  ⟨⟨s.link.notices, s.link.overflow, h.link⟩, .of_same h.groups h.signals⟩

/-- R150: a change of one zone, before its groups are recomputed for it. -/
structure OnlyZone (z : Nat) (s t : State) : Prop where
  link : SameLink s t
  groups : t.groups = s.groups
  others : ∀ j, j ≠ z → (t.zone j).signals = (s.zone j).signals

namespace OnlyZone

variable {z : Nat} {s t u : State}

theorem updZone (s : State) (z : Nat) (f : Zone → Zone) : OnlyZone z s (s.updZone z f) :=
  ⟨⟨_, _, rfl⟩, rfl, fun j other => by rw [State.zone_updZone, if_neg other]⟩

theorem thenAside (h : OnlyZone z s t) (k : Aside t u) : OnlyZone z s u :=
  ⟨h.link.trans k.announced.link, k.groups.trans h.groups, fun j other => (k.signals j).trans (h.others j other)⟩

theorem after_aside (h : Aside s t) (k : OnlyZone z t u) : OnlyZone z s u :=
  ⟨h.announced.link.trans k.link, k.groups.trans h.groups, fun j other => (k.others j other).trans (h.signals j)⟩

theorem raiseChange (h : OnlyZone z s t) (before : MonitorState) : OnlyZone z s (raiseChange z before t) := by
  have frame := raiseChange_frame z before t
  have link : SameLink t (Machine.raiseChange z before t) :=
    LinkBlind.sameLink (f := Machine.raiseChange z before) (fun s l => raiseIf_relinked s l _ _) t
  exact ⟨h.link.trans link, ((congrArg State.groups frame :) : _ = t.groups).trans h.groups, fun j other => by
    rw [raiseChange_zone, h.others j other]⟩

/-- The zone itself kept what groups read of it. -/
theorem announced (h : OnlyZone z s t) (same : (t.zone z).signals = (s.zone z).signals) : Announced s t := by
  refine ⟨h.link, .of_same h.groups fun j => ?_⟩
  by_cases here : j = z
  · exact here ▸ same
  · exact h.others j here

theorem refreshGroups (h : OnlyZone z s t) : Announced s (refreshGroups z t) := by
  have link : SameLink t (Machine.refreshGroups z t) :=
    LinkBlind.sameLink (f := Machine.refreshGroups z) (fun s l => by simp [Machine.refreshGroups]) t
  refine ⟨h.link.trans link, .of_recomputed h.groups h.others (fun j => by rw [refreshGroups_zone]) fun g => ?_⟩
  exact (congrArg (fun u : State => u.group g) (raiseGroupChanges_frame (changedGroups z t) (recomputeGroups z t)) :)

/-- R133: the monitor state stays, so the groups need recomputing only where the summary changed. -/
theorem refreshOnSummary (h : OnlyZone z s t) (monitor : (t.zone z).monitor = (s.zone z).monitor) :
    Announced s (refreshOnSummary z s t) := by
  unfold Machine.refreshOnSummary
  split
  · next summary => exact h.announced (Zone.signals_eq monitor summary)
  · exact h.refreshGroups

end OnlyZone

namespace Announced

theorem refl (s : State) : Announced s s := (Aside.refl s).announced

theorem trans {s t u : State} (h : Announced s t) (k : Announced t u) : Announced s u :=
  ⟨h.link.trans k.link, h.groups.trans k.groups⟩

/-! ### Clock marks (R16, R39) -/

theorem staleCheck (clock : Nat) (s : State) : Announced s (staleCheck clock s) := by
  have blind : LinkBlind fun s => (lapsedChannels s clock).foldl makeStale s := fun s l =>
    foldl_relinked s l (f := makeStale) (fun u ch => by
      unfold makeStale
      rw [relinked_meter]
      cases u.meter? ch <;> rfl) _
  have frame := foldl_makeStale_frame (lapsedChannels s clock) s
  refine ⟨blind.sameLink s, .of_same (congrArg State.groups frame :) fun z => ?_⟩
  exact (congrArg (fun u : State => (u.zone z).signals) frame :)

theorem clockMarkAnswer (time : Nat) (s : State) : Announced s (clockMarkAnswer time s).state := by
  unfold Machine.clockMarkAnswer
  split
  · exact refl s
  · have set : Aside s { s with clock := some time } := ⟨rfl, rfl, fun _ => rfl⟩
    exact (set.trans (.foldl (Aside.markZone time) zoneNumbers _)).announced.trans (staleCheck time _)

/-! ### The zone commands (R44, R109 to R117) -/

theorem zoneSetAnswer (r : ZoneSetReq) (s : State) : Announced s (zoneSetAnswer r s).state := by
  unfold Machine.zoneSetAnswer
  split
  · exact refl s
  · exact refl s
  · refine (OnlyZone.updZone s r.zone fun zn => zn.takeEntries r.entries).refreshOnSummary ?_
    rw [State.zone_updZone_self]
    exact (congrArg Zone.monitor ((s.zone r.zone).takeEntries_frame r.entries) :)

theorem zoneStartAnswer (r : ZoneStartReq) (s : State) : Announced s (zoneStartAnswer r s).state := by
  unfold Machine.zoneStartAnswer
  split
  · exact refl s
  · split
    · exact refl s
    · exact ((OnlyZone.updZone s r.zone _).thenAside (.createNight _ _ _)).refreshGroups

theorem zoneSurveyAnswer (z : Nat) (s : State) : Announced s (zoneSurveyAnswer z s).state := by
  unfold Machine.zoneSurveyAnswer
  split
  · exact refl s
  · split
    · exact refl s
    · exact ((OnlyZone.updZone s z _).thenAside (.createNight _ _ _)).refreshGroups

theorem zoneStopAnswer (z : Nat) (s : State) : Announced s (zoneStopAnswer z s).state := by
  unfold Machine.zoneStopAnswer
  split
  · exact refl s
  · split
    · exact refl s
    · split
      · exact (Aside.updZone s z (f := fun zn => { zn with stopPending := true }) fun _ => rfl).announced
      · exact ((OnlyZone.after_aside (.discardNight z s) (.updZone _ z _)).raiseChange _).refreshGroups

/-- R115: a zone in WATCH stays there, so its groups stay right. -/
theorem acceptLevelAnswer (z : Nat) (s : State) : Announced s (acceptLevelAnswer z s).state := by
  unfold Machine.acceptLevelAnswer
  split
  · exact refl s
  · split
    · exact refl s
    · split
      · exact refl s
      · next f _ =>
        have rebased := (OnlyZone.updZone s z fun zn => zn.rebase f).raiseChange (s.zone z).monitor
        rw [okWith_state]
        unfold acceptLevel
        dsimp only
        split
        · next watch =>
          refine rebased.announced ?_
          rw [raiseChange_zone, State.zone_updZone_self]
          exact Zone.signals_eq watch.symm rfl
        · exact rebased.refreshGroups

theorem ackZoneAnswer (z : Nat) (s : State) : Announced s (ackZoneAnswer z s).state := by
  unfold Machine.ackZoneAnswer
  split
  · exact refl s
  · refine (OnlyZone.updZone s z Zone.acknowledge).refreshOnSummary ?_
    rw [State.zone_updZone_self]
    rfl

theorem resetZoneAnswer (z : Nat) (s : State) : Announced s (resetZoneAnswer z s).state := by
  unfold Machine.resetZoneAnswer
  split
  · exact refl s
  · exact ((OnlyZone.after_aside (.dropNight z s) (.updZone _ z _)).raiseChange _).refreshGroups

/-! ### The engine and the batch (R20, R81) -/

/-- R81, R85: stage 7 recomputes the groups of the zone that stages 3 to 6 wrote; stages 8 to 10 change nothing they read. -/
theorem completeClose (c : CloseItem) (s : State) : Announced s (completeClose c s) := by
  refine ⟨LinkBlind.sameLink (fun s l => completeClose_relinked s l c) s, ?_⟩
  cases void : c.void with
  | true =>
    rw [completeClose_voided void]
    exact .of_same rfl fun _ => rfl
  | false =>
    refine .of_recomputed (closeWritten_groups c s) (fun j other => ?_) (fun j => ?_) (completeClose_group void)
    · rw [closeWritten_zone, if_neg other]
    · rw [completeClose_zone void, closeWritten_zone]
      split
      · exact Zone.turnOver_signals _ c _ _
      · rfl

theorem completeTest (test : Nat) (s : State) : Announced s (completeTest test s) :=
  ⟨LinkBlind.sameLink (fun s l => completeTest_relinked s l test) s, .of_same rfl fun _ => rfl⟩

theorem engineEvent (s : State) : Announced s (engineEvent s) := by
  unfold Machine.engineEvent
  split
  · exact completeClose _ s
  · exact completeTest _ s
  · exact (Aside.startClose _ _ s).announced
  · exact Aside.announced ⟨rfl, rfl, fun _ => rfl⟩
  · exact refl s

theorem engineEvents (k : Nat) (s : State) : Announced s (engineEvents k s) := by
  induction k generalizing s with
  | zero => exact refl s
  | succ k ih => exact (engineEvent s).trans (ih _)

theorem takeRecords (rs : List ReadingRecord) (events : List Nat) (s : State) : Announced s (takeRecords rs events s).1 := by
  induction rs, events, s using Machine.takeRecords.induct with
  | case1 events s => exact refl s
  | case2 r events s => exact (Aside.takeRecord r s).announced
  | case3 r rest events s more a ih =>
    rw [takeRecords_cons r more]
    exact ((Aside.takeRecord r s).announced.trans (engineEvents _ _)).trans ih

theorem batchAnswer (b : BatchReq) (events : List Nat) (s : State) : Announced s (batchAnswer b events s).state := by
  unfold Machine.batchAnswer
  split
  · exact takeRecords b.records events s
  · exact refl s

end Announced

end Sys2Proof.Machine
end

section
/-! SUPPORT. What one command does to the groups, said once; the invariants of the groups that every step keeps (R147 to R150);
and what no request changes of the link (R171, R177, R183). -/

namespace Sys2Proof.Machine

/-! ### GROUP_SET (R151, R152) -/

/-- R151: the ranges of GROUP_SET's fields 1 to 6, in field order. -/
def groupRanges (r : GroupSetReq) : List (Nat × Bool) :=
  [(1, decide (1 ≤ r.group) && decide (r.group ≤ 32)), (2, decide (r.leakMode ≤ 1)), (3, decide (r.leakEnable ≤ 1)),
    (4, decide (r.integMode ≤ 1)), (5, decide (r.integEnable ≤ 1)), (6, decide (r.count ≤ 32))]

theorem groupFieldFault_eq (r : GroupSetReq) : groupFieldFault r = firstFault (groupRanges r) := by
  simp only [groupRanges, firstFault, groupFieldFault, groupCountOk, Config.groupCount, Bool.not_eq_true', ← Bool.not_eq_true,
    ite_not, ← Nat.not_lt (a := 1), decide_eq_true_eq]

theorem groupRanges_iff (r : GroupSetReq) : ∀ e ∈ groupRanges r, (e.2 = true ↔ r.FieldInRange e.1) := by
  simp only [groupRanges, List.forall_mem_cons]
  exact ⟨Bool.and_eq_true_iff.trans (and_congr decide_eq_true_iff decide_eq_true_iff), decide_eq_true_iff, decide_eq_true_iff,
    decide_eq_true_iff, decide_eq_true_iff, decide_eq_true_iff, fun _ h => nomatch h⟩

theorem groupFieldFault_names {r : GroupSetReq} {n : Nat} (low : 1 ≤ n) (high : n ≤ 6) (before : ∀ k < n, r.FieldInRange k)
    (bad : ¬ r.FieldInRange n) : groupFieldFault r = some n := by
  rw [groupFieldFault_eq, ← List.append_nil (groupRanges r)]
  refine firstFault_names _ (fun e he _ => groupRanges_iff r e he) (by simp [groupRanges]) ?_ before bad
  simp [groupRanges]
  omega

theorem groupFieldFault_none_iff {r : GroupSetReq} : groupFieldFault r = none ↔ ∀ k, r.FieldInRange k := by
  refine ⟨fun none k => ?_, fun fields => ?_⟩
  · rw [groupFieldFault_eq, firstFault_none_iff] at none
    have ranges := fun e he => (groupRanges_iff r e he).mp (none e he)
    simp only [groupRanges, List.forall_mem_cons] at ranges
    obtain ⟨group, leakMode, leakEnable, integMode, integEnable, count, -⟩ := ranges
    unfold GroupSetReq.FieldInRange
    split
    · exact group
    · exact leakMode
    · exact leakEnable
    · exact integMode
    · exact integEnable
    · exact count
    · trivial
  · rw [groupFieldFault_eq, firstFault_none_iff]
    exact fun e he => (groupRanges_iff r e he).mpr (fields e.1)

/-- R151: a GROUP_SET that passes its checks. -/
structure GroupSetReq.Passes (r : GroupSetReq) (s : State) : Prop where
  fields : groupFieldFault r = none
  members : memberFault [] 7 r.members = none
  room : membershipFull s r = false

theorem groupSetAnswer_passes {r : GroupSetReq} {s : State} (passes : r.Passes s) :
    groupSetAnswer r s = okWith (writeGroup r s)
      (putBool ((writeGroup r s).group r.group).leakValue ++ putBool ((writeGroup r s).group r.group).integValue) := by
  rw [groupSetAnswer, passes.fields, passes.members]
  dsimp only
  rw [passes.room, if_neg Bool.false_ne_true]

/-- R151: a GROUP_SET is refused, or passes its checks and writes its group. -/
theorem groupSetAnswer_cases (r : GroupSetReq) (s : State) :
    (groupSetAnswer r s).state = s ∨ r.Passes s ∧ (groupSetAnswer r s).state = writeGroup r s := by
  cases fields : groupFieldFault r with
  | some field =>
    rw [groupSetAnswer, fields]
    exact .inl rfl
  | none =>
    cases members : memberFault [] 7 r.members with
    | some field =>
      rw [groupSetAnswer, fields, members]
      exact .inl rfl
    | none =>
      cases room : membershipFull s r with
      | true =>
        rw [groupSetAnswer, fields, members]
        dsimp only
        rw [room, if_pos rfl]
        exact .inl rfl
      | false =>
        have passes : r.Passes s := ⟨fields, members, room⟩
        rw [groupSetAnswer_passes passes]
        exact .inr ⟨passes, rfl⟩

/-- R152: of all the groups, the one named is defined and formed again. -/
theorem writeGroup_group (r : GroupSetReq) (s : State) (g : Nat) :
    (writeGroup r s).group g = if g = r.group then (definedGroup s r).recomputed s else s.group g := by
  have raised (u : State) (b : Bool) (n : Notice) : (u.raiseIf b n).group g = u.group g := by cases b <;> rfl
  rw [writeGroup, raised, State.group_setGroup]

/-- R152: beside groups and notices, nothing changes. -/
theorem writeGroup_frame (r : GroupSetReq) (s : State) : { writeGroup r s with link := s.link, groups := s.groups } = s := by
  unfold writeGroup State.raiseIf
  dsimp only
  split <;> rfl

theorem writeGroup_sameLink (r : GroupSetReq) (s : State) : SameLink s (writeGroup r s) := by
  unfold writeGroup State.raiseIf
  dsimp only
  split <;> exact ⟨_, _, rfl⟩

/-! ### What a request does before it is answered -/

/-- The kinds of the requests that raise or fetch notices (R16, R109, R150, R177, R179). -/
def announcingKinds : List Nat := [0x11, 0x18, 0x20, 0x21, 0x22, 0x23, 0x26, 0x27, 0x28, 0x30, 0x50]

/-- What a command's request does to the link and the groups. -/
inductive RequestDoes (c : Instr) (s t : State) : Prop
  | aside (h : Aside s t)
  | announces (k : Byte) (kind : c.frame?.map Frame.kind = some k) (listed : k.toNat ∈ announcingKinds) (h : Announced s t)
  /-- R183 -/
  | restarts (kind : c.frame?.map Frame.kind = some 0x52) (level : Option RestartLevel)
      (h : t = { s with link := { s.link with restart := level } })
  /-- R152 -/
  | defines (kind : ∃ tag p, c = .groupSet tag p) (r : GroupSetReq) (length : r.count ≤ 32 → r.members.length = r.count)
      (passes : r.Passes s) (h : t = writeGroup r s)

/-- R175: a command's request is not taken, or what it does is answered. -/
inductive Requested (c : Instr) (s t : State) : Prop
  | untaken (h : t = s)
  | answered (u : State) (does : RequestDoes c s.popIntake u) (kind tag : Byte) (code : ReplyCode) (body : List Byte)
      (h : t = u.replied kind tag code body)

namespace Requested

variable {c : Instr} {s t : State}

theorem of_serve {kind tag : Byte} {payload : List Byte} {owner : List Byte → State → Answer}
    (h : ∀ u, RequestDoes c u (owner payload u).state) (e : serve kind tag payload owner s = .next t) : Requested c s t := by
  rcases serve_cases e with ⟨-, rfl⟩ | ⟨-, rfl⟩
  · exact .answered _ (h s.popIntake) _ _ _ _ rfl
  · exact .untaken rfl

/-- A request that is parsed whole before its owner takes it. -/
theorem of_fields {α : Type} {kind tag : Byte} {payload : List Byte} {parse : List Byte → Option α}
    {owner : α → State → Answer} (h : ∀ r u, RequestDoes c u (owner r u).state)
    (e : serve kind tag payload (fun p s => withFields (parse p) s fun r => owner r s) s = .next t) : Requested c s t := by
  refine of_serve (fun u => ?_) e
  cases parse payload with
  | none => exact .aside (.refl u)
  | some r => exact h r u

/-- A request that neither raises notices nor touches a group. -/
theorem of_aside {α : Type} {kind tag : Byte} {payload : List Byte} {parse : List Byte → Option α}
    {owner : α → State → Answer} (h : ∀ r u, Aside u (owner r u).state)
    (e : serve kind tag payload (fun p s => withFields (parse p) s fun r => owner r s) s = .next t) : Requested c s t :=
  of_fields (fun r u => .aside (h r u)) e

/-- A request that raises or fetches notices. -/
theorem of_announced {α : Type} {kind tag : Byte} {payload : List Byte} {parse : List Byte → Option α}
    {owner : α → State → Answer} {k : Byte} (announcing : c.frame?.map Frame.kind = some k)
    (listed : k.toNat ∈ announcingKinds) (h : ∀ r u, Announced u (owner r u).state)
    (e : serve kind tag payload (fun p s => withFields (parse p) s fun r => owner r s) s = .next t) : Requested c s t :=
  of_fields (fun r u => .announces k announcing listed (h r u)) e

end Requested

theorem noticeFetchAnswer_announced (s : State) : Announced s (noticeFetchAnswer s).state :=
  ⟨⟨_, _, rfl⟩, .of_same rfl fun _ => rfl⟩

theorem restartAnswer_does {c : Instr} (kind : c.frame?.map Frame.kind = some 0x52) (level : Nat) (s : State) :
    RequestDoes c s (restartAnswer level s).state := by
  unfold restartAnswer
  split
  · exact .aside (.refl s)
  · exact .restarts kind _ rfl

theorem parseGroupSet_length {p : List Byte} {r : GroupSetReq} (parsed : parseGroupSet p = some r) (count : r.count ≤ 32) :
    r.members.length = r.count := by
  unfold parseGroupSet at parsed
  split at parsed
  · cases parsed
  · split at parsed
    · split at parsed
      · next whole =>
        cases parsed
        simp [whole]
      · cases parsed
    · next large =>
      cases parsed
      exact absurd count (by simpa [groupCountOk] using large)

theorem groupSet_requested {tag : Byte} {p : List Byte} {s t : State} (e : exec (.groupSet tag p) s = .next t) :
    Requested (.groupSet tag p) s t := by
  refine .of_serve (owner := fun p s => withFields (parseGroupSet p) s fun r => groupSetAnswer r s) (fun u => ?_) e
  cases parsed : parseGroupSet p with
  | none => exact .aside (.refl u)
  | some r =>
    rcases groupSetAnswer_cases r u with refused | ⟨passes, written⟩
    · exact .aside (.of_eq refused)
    · exact .defines ⟨tag, p, rfl⟩ r (parseGroupSet_length parsed) passes written

/-- R175: what each request does. -/
theorem exec_requested {c : Instr} {f : Frame} {s t : State} (framed : c.frame? = some f) (e : exec c s = .next t) :
    Requested c s t := by
  cases c <;> cases framed
  case addMeter => exact .of_aside Aside.addMeterAnswer e
  case removeMeter => exact .of_aside Aside.removeMeterAnswer e
  case replaceMeter => exact .of_aside Aside.replaceAnswer e
  case attachMeter => exact .of_aside Aside.attachAnswer e
  case meterRead => exact .of_aside Aside.meterReadAnswer e
  case reading => exact .of_aside (owner := readingAnswer) Aside.takeRecord e
  case readingBatch events =>
    exact .of_announced (k := 0x11) rfl (by decide) (fun b u => Announced.batchAnswer b events u) e
  case clockMark => exact .of_announced (k := 0x18) rfl (by decide) Announced.clockMarkAnswer e
  case partSet => exact .of_aside Aside.partSetAnswer e
  case partStatus => exact .of_aside (fun _ u => Aside.refl u) e
  case zoneSet => exact .of_announced (k := 0x20) rfl (by decide) Announced.zoneSetAnswer e
  case forceClose => exact .of_aside Aside.forceCloseAnswer e
  case zoneStart => exact .of_announced (k := 0x21) rfl (by decide) Announced.zoneStartAnswer e
  case zoneStop => exact .of_announced (k := 0x22) rfl (by decide) Announced.zoneStopAnswer e
  case zoneSurvey => exact .of_announced (k := 0x23) rfl (by decide) Announced.zoneSurveyAnswer e
  case excludeNight => exact .of_aside Aside.excludeNightAnswer e
  case acceptLevel => exact .of_announced (k := 0x26) rfl (by decide) Announced.acceptLevelAnswer e
  case ackZone => exact .of_announced (k := 0x27) rfl (by decide) Announced.ackZoneAnswer e
  case resetZone => exact .of_announced (k := 0x28) rfl (by decide) Announced.resetZoneAnswer e
  case zoneRead => exact .of_aside Aside.zoneReadAnswer e
  case zoneProfile => exact .of_aside Aside.zoneProfileAnswer e
  case groupSet => exact groupSet_requested e
  case groupRead => exact .of_aside Aside.groupReadAnswer e
  case historyRead => exact .of_aside Aside.historyReadAnswer e
  case unfreeze => exact .of_aside Aside.unfreezeAnswer e
  case reportHold => exact .of_aside (fun _ => Aside.reportHoldAnswer) e
  case reportRelease => exact .of_aside (fun _ => Aside.reportReleaseAnswer) e
  case captureRead => exact .of_aside (fun _ u => Aside.refl u) e
  case clearCapture => exact .of_aside (fun _ _ => ⟨rfl, rfl, fun _ => rfl⟩) e
  case testStart => exact .of_aside Aside.testStartAnswer e
  case testCancel => exact .of_aside (fun _ => Aside.testCancelAnswer) e
  case testRead => exact .of_aside (fun _ u => Aside.refl u) e
  case testClear => exact .of_aside (fun _ _ => ⟨rfl, rfl, fun _ => rfl⟩) e
  case noticeFetch => exact .of_announced (k := 0x50) rfl (by decide) (fun _ => noticeFetchAnswer_announced) e
  case restart => exact .of_fields (restartAnswer_does rfl) e
  case unknownKind kind tag payload =>
    simp only [exec, execUnknownKind] at e
    split at e
    · cases e
      exact .untaken rfl
    · exact .of_serve (fun u => .aside (.refl u)) e

/-! ### What a command does to the groups -/

/-- What a command does to the groups: it keeps what they say, defines one, or resets them. -/
inductive GroupsEffect (c : Instr) (s t : State) : Prop
  | keeps (h : GroupsKeep s t)
  /-- R152 -/
  | defines (kind : ∃ tag p, c = .groupSet tag p) (r : GroupSetReq) (length : r.count ≤ 32 → r.members.length = r.count)
      (passes : r.Passes s) (zone : ∀ z, t.zone z = s.zone z)
      (group : ∀ g, t.group g = if g = r.group then (definedGroup s r).recomputed s else s.group g)
  /-- R155 -/
  | resets (kind : c = .restartTakesEffect ∨ ∃ high, c = .resetPinRelease high) (l : Link)
      (h : t = fullReset l s ∨ t = runtimeReset l s)

/-- The frame that leaves the buffer and the reply are no part of the groups. -/
theorem Requested.groupsEffect {c : Instr} {s t : State} (h : Requested c s t) : GroupsEffect c s t := by
  have answered {u : State} (keeps : GroupsKeep s.popIntake u) (kind tag : Byte) (code : ReplyCode) (body : List Byte) :
      GroupsEffect c s (u.replied kind tag code body) := by
    have taken : GroupsKeep s s.popIntake := .of_same rfl fun _ => rfl
    exact .keeps ((taken.trans keeps).trans (.of_same rfl fun _ => rfl))
  cases h with
  | untaken h => exact .keeps (.of_same (h ▸ rfl) fun _ => h ▸ rfl)
  | answered u does kind tag code body h =>
    subst h
    cases does with
    | aside h => exact answered h.announced.groups kind tag code body
    | announces _ _ _ h => exact answered h.groups kind tag code body
    | restarts _ level h => exact answered (.of_same (h ▸ rfl) fun _ => h ▸ rfl) kind tag code body
    | defines groupSet r length passes h =>
      have room : membershipFull s r = false := passes.room
      refine .defines groupSet r length ⟨passes.fields, passes.members, room⟩ (fun z => ?_) fun g => ?_
      · rw [h]
        exact (congrArg (fun v : State => v.zone z) (writeGroup_frame r s.popIntake) :)
      · rw [h]
        exact writeGroup_group r s.popIntake g

theorem abandonNights_groups (s : State) : (abandonNights s).groups = s.groups := by
  have each (s : State) (z : Nat) :
      ((freeNight z s).updZone z fun zn => { zn.enterStandby with stopPending := false }).groups = s.groups :=
    (Aside.freeNight z s).groups
  unfold abandonNights
  induction zoneNumbers generalizing s with
  | nil => rfl
  | cons z rest ih => exact (ih _).trans (each s z)

/-- R184: at the pin's assertion, every group is recomputed for the zones that the abandoned nights leave in STANDBY. -/
theorem GroupsKeep.abandonAll (s : State) : GroupsKeep s (abandonAll s) := by
  have halted (u : State) (l : Link) (g : Nat) : (u.halted l).group g = u.group g := rfl
  exact .of_recomputedAll (abandonNights_groups s) (abandonAll_zone_eq s) fun g => by rw [abandonAll_halted, halted]

/-- R155, R184: what each command that is no request does to the groups. -/
theorem exec_groupsEffect_of_event {c : Instr} {s t : State} (event : c.frame? = none) (e : exec c s = .next t) :
    GroupsEffect c s t := by
  have beside {u : State} (h : Aside s u) : GroupsEffect c s u := .keeps h.announced.groups
  have linked (l : Link) : GroupsEffect c s { s with link := l } := .keeps (.of_same rfl fun _ => rfl)
  cases c <;> cases event
  case restartTakesEffect =>
    simp only [exec, execRestartTakesEffect] at e
    split at e <;> cases e
    · exact .resets (.inl rfl) _ (.inr rfl)
    · exact .resets (.inl rfl) _ (.inl rfl)
    · exact beside (.refl s)
  case frameReceived =>
    simp only [exec, execFrameReceived] at e
    split at e <;> cases e
    · exact linked _
    · exact beside (.refl s)
  case interByteGap =>
    cases e
    exact linked _
  case resetPinAssert =>
    have e : Host.Outcome.next (abandonAll s) = .next t := e
    injection e with e
    exact .keeps (e ▸ .abandonAll s)
  case resetPinRelease high =>
    simp only [exec, execResetPinRelease] at e
    split at e <;> cases e
    · exact .resets (.inr ⟨high, rfl⟩) _ (.inl rfl)
    · exact beside (.refl s)
  case startupReady =>
    simp only [exec, execStartupReady] at e
    split at e <;> cases e
    · exact linked _
    · exact beside (.refl s)
  case closeStart =>
    simp only [exec, execCloseStart] at e
    split at e
    · split at e <;> cases e
      · exact beside (.startClose _ _ s)
      · exact beside (.refl s)
    · cases e
      exact beside (.refl s)
  case testRunStart =>
    simp only [exec, execTestRunStart] at e
    split at e
    · split at e <;> cases e
      · exact beside ⟨rfl, rfl, fun _ => rfl⟩
      · exact beside (.refl s)
    · cases e
      exact beside (.refl s)
  case closeCompletion =>
    simp only [exec, execCloseCompletion] at e
    split at e
    · split at e <;> cases e
      · exact .keeps (Announced.completeClose _ s).groups
      · exact beside (.refl s)
    · cases e
      exact beside (.refl s)
  case testRunCompletion =>
    simp only [exec, execTestRunCompletion] at e
    split at e
    · split at e <;> cases e
      · exact .keeps (Announced.completeTest _ s).groups
      · exact beside (.refl s)
    · cases e
      exact beside (.refl s)

/-- R147 to R155: what each command does to the groups. -/
theorem exec_groupsEffect {c : Instr} {s t : State} (e : exec c s = .next t) : GroupsEffect c s t := by
  cases framed : c.frame? with
  | some f => exact (exec_requested framed e).groupsEffect
  | none => exact exec_groupsEffect_of_event framed e

/-! ### The groups' values (R149) -/

/-- R148, R149: with no zone monitored, both values of a group are false. -/
theorem signalsOk_of_standby {t : State} {gr : Group} (standby : ∀ z, (t.zone z).monitor = .standby)
    (leak : gr.leakValue = false) (integrity : gr.integValue = false) : SignalsOk t gr := by
  have none : gr.members.filter (fun z => (t.zone z).monitor.monitored) = [] := by simp [standby, MonitorState.monitored]
  have never (mode : GroupMode) : ¬ Combines mode [] := by cases mode <;> simp [Combines]
  rw [SignalsOk, none, leak, integrity]
  exact ⟨by simp [never], by simp [never]⟩

/-- What a listed group reads after every listed group is changed: a changed record, or that of an unlisted number. -/
theorem runtimeReset_group_cases (l : Link) (s : State) (g : Nat) :
    (runtimeReset l s).group g = Group.reset ∨ ∃ gr, (runtimeReset l s).group g = Group.runtimeReset gr := by
  have read : (runtimeReset l s).group g =
      (Table.find? (Table.mapListed Group.reset Group.runtimeReset s.groups) g).getD Group.reset := rfl
  rw [read]
  cases found : Table.find? (Table.mapListed Group.reset Group.runtimeReset s.groups) g with
  | none => exact .inl rfl
  | some gr =>
    obtain ⟨e, -, same⟩ := List.mem_map.mp (List.mem_of_mem_filter (Table.mem_of_find? found))
    exact .inr ⟨e.2, (congrArg Prod.snd same).symm⟩

theorem groupsOk_fullReset (l : Link) (s : State) : GroupsOk (fullReset l s) := fun _ _ =>
  signalsOk_of_standby (fun _ => rfl) rfl rfl

/-- R155: a RUNTIME restart leaves every zone in STANDBY and every value false. -/
theorem groupsOk_runtimeReset (l : Link) (s : State) : GroupsOk (runtimeReset l s) := fun g _ => by
  have standby (z : Nat) : ((runtimeReset l s).zone z).monitor = .standby := by
    rcases runtimeReset_zone_cases l s z with reset | ⟨zn, cleared⟩
    · rw [reset]
      rfl
    · rw [cleared]
      rfl
  rcases runtimeReset_group_cases l s g with reset | ⟨gr, cleared⟩
  · rw [reset]
    exact signalsOk_of_standby standby rfl rfl
  · rw [cleared]
    exact signalsOk_of_standby standby rfl rfl

theorem exec_keeps_groups {c : Instr} {s t : State} (ok : GroupsOk s) (e : exec c s = .next t) : GroupsOk t := by
  cases exec_groupsEffect e with
  | keeps h => exact h.signals ok
  | defines _ r _ _ zone group =>
    intro g known
    rw [group]
    split
    · exact signalsOk_recomputed zone _
    · exact signalsOk_of_members (ok g known) fun z _ => congrArg Zone.signals (zone z)
  | resets _ l h =>
    rcases h with rfl | rfl
    · exact groupsOk_fullReset l s
    · exact groupsOk_runtimeReset l s

/-! ### The member lists (R147, R151) -/

theorem Group.SameDefinition.members {gr gr' : Group} (h : gr.SameDefinition gr') : gr'.members = gr.members := by
  have same : { gr' with leakValue := gr.leakValue, integValue := gr.integValue } = gr := h
  exact (congrArg Group.members same :)

theorem MembersOk.of_members {s t : State} (ok : MembersOk s) (same : ∀ g, (t.group g).members = (s.group g).members) :
    MembersOk t := by
  obtain ⟨lists, counts⟩ := ok
  refine ⟨fun g => same g ▸ lists g, fun z => ?_⟩
  have count : membershipCount t z = membershipCount s z := by simp only [membershipCount, same]
  exact count ▸ counts z

theorem membersOk_fullReset (l : Link) (s : State) : MembersOk (fullReset l s) :=
  ⟨fun _ => ⟨.nil, Nat.zero_le _, nofun⟩, fun z => by
    have none : membershipCount (fullReset l s) z = 0 := List.countP_eq_zero.mpr fun _ _ => Bool.false_ne_true
    omega⟩

/-- R155: a RUNTIME restart keeps the definitions. -/
theorem runtimeReset_members {s : State} (tables : TablesOk s) (l : Link) (g : Nat) :
    ((runtimeReset l s).group g).members = (s.group g).members := by
  have read : (runtimeReset l s).group g = ((Table.find? s.groups g).map Group.runtimeReset).getD Group.reset := by
    obtain ⟨-, -, -, groups⟩ := tables
    exact Table.read_mapListed groups.1 _ g
  rw [read, State.group, Table.read]
  cases Table.find? s.groups g <;> rfl

/-- All but one entry of a list without repetitions meet a test at most once less often than all do. -/
theorem countP_le_others {l : List Nat} (apart : l.Nodup) (a : Nat) (p : Nat → Bool) :
    l.countP p ≤ (l.countP fun g => decide (g ≠ a) && p g) + 1 := by
  induction l with
  | nil => exact Nat.zero_le _
  | cons g rest ih =>
    obtain ⟨fresh, apart⟩ := List.nodup_cons.mp apart
    by_cases here : g = a
    · subst here
      have others : (rest.countP fun j => decide (j ≠ g) && p j) = rest.countP p :=
        List.countP_congr fun j member => by simp [ne_of_mem_of_not_mem member fresh]
      rw [List.countP_cons, List.countP_cons, others]
      split <;> omega
    · have others := ih apart
      simp only [List.countP_cons, decide_eq_true here, Bool.true_and]
      omega

theorem groupNumbers_nodup : groupNumbers.Nodup := List.nodup_range'

/-- R151: a zone of the new list is in fewer than 4 other groups. -/
theorem membershipFull_false_iff (s : State) (r : GroupSetReq) :
    membershipFull s r = false ↔ ∀ z ∈ r.members, otherGroupCount s r.group z < 4 := by
  simp only [membershipFull, List.any_eq_false, decide_eq_true_eq]
  exact forall₂_congr fun _ _ => by omega

/-- R152: the new list is ascending, of zones, and no longer than the request's. -/
theorem definedGroup_members (s : State) (r : GroupSetReq) :
    (definedGroup s r).members.Pairwise (· < ·) ∧ (definedGroup s r).members.length ≤ r.members.length ∧
      ∀ z ∈ (definedGroup s r).members, ZoneValid z ∧ z ∈ r.members := by
  have listed : ∀ z ∈ (definedGroup s r).members, ZoneValid z ∧ z ∈ r.members := fun z member => by
    obtain ⟨zone, inside⟩ := List.mem_filter.mp member
    exact ⟨mem_zoneNumbers.mp zone, List.contains_iff_mem.mp inside⟩
  have ascending : zoneNumbers.Pairwise (· < ·) := List.pairwise_lt_range'
  exact ⟨ascending.filter _,
    (List.subperm_of_subset (zoneNumbers_nodup.filter _) fun z member => (listed z member).2).length_le, listed⟩

/-- R151, R152: the definition of a group keeps the member lists within their bounds. -/
theorem MembersOk.define {s t : State} {r : GroupSetReq} (ok : MembersOk s) (passes : r.Passes s)
    (length : r.count ≤ 32 → r.members.length = r.count)
    (group : ∀ g, t.group g = if g = r.group then (definedGroup s r).recomputed s else s.group g) : MembersOk t := by
  obtain ⟨lists, counts⟩ := ok
  obtain ⟨ascending, short, listed⟩ := definedGroup_members s r
  have members (g : Nat) : (t.group g).members = if g = r.group then (definedGroup s r).members else (s.group g).members := by
    rw [group]
    split <;> rfl
  have count : r.FieldInRange 6 := groupFieldFault_none_iff.mp passes.fields 6
  refine ⟨fun g => ?_, fun z => ?_⟩
  · rw [members]
    split
    · exact ⟨ascending, short.trans (length count ▸ count), fun z member => (listed z member).1⟩
    · exact lists g
  · have others : (groupNumbers.countP fun g => decide (g ≠ r.group) && (t.group g).members.contains z) =
        otherGroupCount s r.group z := by
      refine List.countP_congr fun g _ => ?_
      by_cases here : g = r.group
      · simp [here]
      · simp [members, here]
    by_cases chosen : z ∈ r.members
    · have room := (membershipFull_false_iff s r).mp passes.room z chosen
      have bound := countP_le_others groupNumbers_nodup r.group fun g => (t.group g).members.contains z
      rw [others] at bound
      rw [membershipCount]
      omega
    · have fewer : membershipCount t z ≤ membershipCount s z := by
        refine List.countP_mono_left fun g _ member => ?_
        rw [members] at member
        split at member
        · exact absurd (listed z (List.contains_iff_mem.mp member)).2 chosen
        · exact member
      exact fewer.trans (counts z)

theorem exec_keeps_members {c : Instr} {s t : State} (tables : TablesOk s) (ok : MembersOk s) (e : exec c s = .next t) :
    MembersOk t := by
  cases exec_groupsEffect e with
  | keeps h => exact ok.of_members fun g => (h.definitions g).members
  | defines _ r length passes _ group => exact ok.define passes length group
  | resets _ l h =>
    rcases h with rfl | rfl
    · exact membersOk_fullReset l s
    · exact ok.of_members (runtimeReset_members tables l)

/-- Settles O57: each effect of a command on the groups keeps the values and the member lists; canonical tables make what a
RUNTIME restart leaves of a group the group it was. -/
theorem groupsFollowTheirMembers : Obligations.GroupsFollowTheirMembers := by
  unfold Obligations.GroupsFollowTheirMembers
  refine ⟨fun s t ok e => ?_, fun s t tables ok e => ?_⟩
  · exact step_keeps (P := GroupsOk) (fun _ _ h => h) (fun _ _ _ => exec_keeps_groups) ok e
  · exact (step_keeps (P := fun s => TablesOk s ∧ MembersOk s) (fun _ _ h => h)
      (fun _ _ _ h e => ⟨exec_keeps_tables h.1 e, exec_keeps_members h.1 h.2 e⟩) ⟨tables, ok⟩ e).2

/-! ### What no request changes (R171, R177, R183) -/

/-- What a request keeps of the link, but for the restart it may ask for and the notices it may raise or fetch. -/
theorem SameLink.keeps {s t : State} (h : SameLink s t) :
    t.link.power = s.link.power ∧ t.link.lineRate = s.link.lineRate ∧ t.link.receiver = s.link.receiver ∧
      t.link.restart = s.link.restart := by
  obtain ⟨notices, overflow, link⟩ := h
  rw [link]
  exact ⟨rfl, rfl, rfl, rfl⟩

/-- Settles O8: a request by what it does to the link before it is answered, a command by its effect on the groups. -/
theorem requestsKeepTheLinkAndGroups : Obligations.RequestsKeepTheLinkAndGroups := by
  unfold Obligations.RequestsKeepTheLinkAndGroups
  refine ⟨fun c f s t framed e => ?_, fun c s t e notGroupSet notRestart notRelease g => ?_⟩
  · cases exec_requested framed e with
    | untaken h => exact h ▸ ⟨rfl, rfl, rfl, fun _ => rfl, fun _ => ⟨rfl, rfl⟩⟩
    | answered u does kind tag code body h =>
      subst h
      cases does with
      | aside h =>
        have link : u.link = s.popIntake.link := h.link
        simp [link]
      | announces k announcing listed h =>
        obtain ⟨power, lineRate, receiver, restart⟩ := h.link.keeps
        rw [framed] at announcing
        cases announcing
        exact ⟨power, lineRate, receiver, fun _ => restart, fun silent => absurd listed silent⟩
      | restarts restarting level h =>
        rw [framed] at restarting
        injection restarting with restarting
        exact h ▸ ⟨rfl, rfl, rfl, fun other => absurd restarting other, fun _ => ⟨rfl, rfl⟩⟩
      | defines groupSet r _ _ h =>
        obtain ⟨_, _, rfl⟩ := groupSet
        cases framed
        obtain ⟨power, lineRate, receiver, restart⟩ := (writeGroup_sameLink r s.popIntake).keeps
        have listed : (0x30 : Byte).toNat ∈ announcingKinds := by decide
        exact h ▸ ⟨power, lineRate, receiver, fun _ => restart, fun silent => absurd listed silent⟩
  · cases exec_groupsEffect e with
    | keeps h => exact h.definitions g
    | defines groupSet =>
      obtain ⟨tag, p, groupSet⟩ := groupSet
      exact absurd groupSet (notGroupSet tag p)
    | resets reset =>
      rcases reset with restart | ⟨high, release⟩
      · exact absurd restart notRestart
      · exact absurd release (notRelease high)

end Sys2Proof.Machine
end

section
/-! SUPPORT. GROUP_SET (R151, R152): what each check draws, and what one that passes defines and raises. -/

namespace Sys2Proof.Machine

/-! ### The members' check (R151 step 2) -/

/-- R151: zones in range and apart are passed over, and stand as the earlier ones of what follows. -/
theorem memberFault_append {good earlier : List Nat} {field : Nat} (zones : ∀ y ∈ good, ZoneValid y ∧ y ∉ earlier)
    (apart : good.Nodup) (rest : List Nat) :
    memberFault earlier field (good ++ rest) = memberFault (good.reverse ++ earlier) (field + good.length) rest := by
  induction good generalizing earlier field with
  | nil => rfl
  | cons y good ih =>
    obtain ⟨⟨zone, fresh⟩, others⟩ := List.forall_mem_cons.mp zones
    obtain ⟨once, apart⟩ := List.nodup_cons.mp apart
    have passes : ¬ (!zoneOk y || earlier.contains y) = true := by simp [(zoneOk_iff y).mpr zone, fresh]
    have later : ∀ x ∈ good, ZoneValid x ∧ x ∉ y :: earlier := fun x member =>
      ⟨(others x member).1, List.not_mem_cons_of_ne_of_not_mem (ne_of_mem_of_not_mem member once) (others x member).2⟩
    rw [List.cons_append, memberFault, if_neg passes, ih later apart, List.reverse_cons, List.append_assoc, List.length_cons,
      Nat.add_assoc, Nat.add_comm 1]
    rfl

/-- R151: the first zone that is none or repeats is named by its place. -/
theorem memberFault_names {good : List Nat} {z field : Nat} (zones : ∀ y ∈ good, ZoneValid y) (apart : good.Nodup)
    (bad : ¬ ZoneValid z ∨ z ∈ good) (rest : List Nat) :
    memberFault [] field (good ++ z :: rest) = some (field + good.length) := by
  have fails : (!zoneOk z || (good.reverse ++ []).contains z) = true := by
    simpa [Bool.eq_false_iff, zoneOk_iff] using bad
  rw [memberFault_append (fun y member => ⟨zones y member, List.not_mem_nil⟩) apart, memberFault, if_pos fails]

/-- R151: a list of zones in range, no two alike, passes. -/
theorem memberFault_none {zs : List Nat} {field : Nat} (zones : ∀ y ∈ zs, ZoneValid y) (apart : zs.Nodup) :
    memberFault [] field zs = none := by
  rw [← List.append_nil zs, memberFault_append (fun y member => ⟨zones y member, List.not_mem_nil⟩) apart, memberFault]

/-! ### The answer, check by check -/

section
variable {r : GroupSetReq} {s : State}

theorem groupSetAnswer_field {n : Nat} (fault : groupFieldFault r = some n) : groupSetAnswer r s = badField s n := by
  rw [groupSetAnswer, fault]

theorem groupSetAnswer_member (fields : ∀ k, r.FieldInRange k) {n : Nat} (fault : memberFault [] 7 r.members = some n) :
    groupSetAnswer r s = badField s n := by
  rw [groupSetAnswer, groupFieldFault_none_iff.mpr fields, fault]

theorem groupSetAnswer_full (fields : ∀ k, r.FieldInRange k) (members : memberFault [] 7 r.members = none)
    (full : membershipFull s r = true) : groupSetAnswer r s = refuse s .groupFull := by
  rw [groupSetAnswer, groupFieldFault_none_iff.mpr fields, members]
  exact if_pos full

end

/-- R176: a GROUP_SET whose count is in range is read back whole; of one whose count is not, the six fields are. -/
theorem parseGroupSet_fits {r : GroupSetReq} (fits : r.Fits) :
    ∃ members, parseGroupSet (putGroupSet r) = some { r with members := members } ∧
      (r.count ≤ 32 → members = r.members) := by
  obtain ⟨group, leakMode, leakEnable, integMode, integEnable, count, length, small⟩ := fits
  by_cases short : r.count ≤ 32
  · exact ⟨r.members,
      parseGroupSet_put group leakMode leakEnable integMode integEnable short (length short) small, fun _ => rfl⟩
  · refine ⟨[], ?_, fun short' => absurd short' short⟩
    have fixed : ¬ (putGroupSet r).length < 6 := by simp [putGroupSet]; omega
    have last : fieldAt (putGroupSet r) 5 1 = r.count := by simp (disch := omega) [putGroupSet, fieldAt]
    have large : ¬ groupCountOk r.count = true := by simpa [groupCountOk] using short
    rw [parseGroupSet, if_neg fixed, last, if_neg large]
    simp (disch := omega) [putGroupSet, fieldAt]

/-! ### What is defined and raised (R152) -/

/-- R150, R152: the notice of a GROUP_SET that changes an enabled signal. -/
def definitionNews (r : GroupSetReq) (before after : Group) : List Notice :=
  if (r.leakEnable = 1 ∧ after.leakValue ≠ before.leakValue) ∨
      (r.integEnable = 1 ∧ after.integValue ≠ before.integValue) then
    [.groupChange r.group after.leakValue after.integValue (decide (r.leakEnable = 1)) (decide (r.integEnable = 1))]
  else []

/-- R152: the group defined, then its notice. -/
theorem writeGroup_eq_foldl (r : GroupSetReq) (s : State) :
    writeGroup r s = (definitionNews r (s.group r.group) ((definedGroup s r).recomputed s)).foldl State.raise
      (s.setGroup r.group ((definedGroup s r).recomputed s)) := by
  have changes : groupChanges s (definedGroup s r) = true ↔
      (r.leakEnable = 1 ∧ ((definedGroup s r).recomputed s).leakValue ≠ (s.group r.group).leakValue) ∨
        (r.integEnable = 1 ∧ ((definedGroup s r).recomputed s).integValue ≠ (s.group r.group).integValue) := by
    simp [groupChanges, Group.recomputed, definedGroup]
  have notice : groupNotice (s.setGroup r.group ((definedGroup s r).recomputed s)) r.group =
      .groupChange r.group ((definedGroup s r).recomputed s).leakValue ((definedGroup s r).recomputed s).integValue
        (decide (r.leakEnable = 1)) (decide (r.integEnable = 1)) := by
    rw [groupNotice, State.group_setGroup_self]
    rfl
  rw [writeGroup, raiseIf_eq_foldl, notice, definitionNews, if_congr changes rfl rfl]

/-- R152: the link after that, whatever frame waited. -/
theorem writeGroup_link (r : GroupSetReq) (s : State) :
    (writeGroup r s.popIntake).link = ((definitionNews r (s.group r.group)
      ((writeGroup r s.popIntake).group r.group)).foldl State.raise s).popIntake.link := by
  have formed : (writeGroup r s.popIntake).group r.group = (definedGroup s.popIntake r).recomputed s.popIntake := by
    rw [writeGroup_group, if_pos rfl]
  rw [formed, writeGroup_eq_foldl, ← Announces.foldl_raise_popIntake]
  exact foldl_raise_link_congr _ rfl

/-- R152: what a GROUP_SET that passes its checks answers, raises and leaves. -/
theorem groupSet_defines {tag : Byte} {p : List Byte} {r : GroupSetReq} {s : State} (takes : Takes s 0x30 tag p)
    (parsed : parseGroupSet p = some r) (passes : r.Passes s.popIntake) :
    ∃ t, exec (.groupSet tag p) s = .next t ∧
      (∃ reply, t.link.reply = some reply ∧ reply.code = .ok ∧
        reply.body = putBool (t.group r.group).leakValue ++ putBool (t.group r.group).integValue) ∧
      (let news := definitionNews r (s.group r.group) (t.group r.group)
       t.link.notices = (news.foldl State.raise s).link.notices ∧
         t.link.overflow = (news.foldl State.raise s).link.overflow) ∧
      { t with link := (writeGroup r s.popIntake).link } = writeGroup r s.popIntake := by
  have link := writeGroup_link r s
  exact ⟨_, serve_answer (owner := groupSetAnswer) takes parsed (groupSetAnswer_passes passes), ⟨_, rfl, rfl, rfl⟩,
    ⟨(congrArg Link.notices link :), (congrArg Link.overflow link :)⟩, rfl⟩

/-- Settles O58: the refusals by the first check that fails; one that passes by the group it writes. -/
theorem groupSetDefinesGroup : Obligations.GroupSetDefinesGroup := by
  unfold Obligations.GroupSetDefinesGroup
  intro tag r s fits takes others fieldsOk
  obtain ⟨members, parsed, whole⟩ := parseGroupSet_fits fits
  have answers {a : Answer} (h : groupSetAnswer { r with members := members } s.popIntake = a) :=
    serve_answer (owner := groupSetAnswer) takes parsed h
  have same (fields : fieldsOk) : ({ r with members := members } : GroupSetReq) = r := by rw [whole (fields 6)]
  have zone (z : Nat) (member : z ∈ r.members) (nonzero : z ≠ 0) : ZoneValid z := by
    obtain ⟨-, -, -, -, -, -, -, small⟩ := fits
    have := small z member
    exact ⟨by omega, by omega⟩
  have passing (nodup : r.members.Nodup) (nonzero : ∀ z ∈ r.members, z ≠ 0) : memberFault [] 7 r.members = none :=
    memberFault_none (fun z member => zone z member (nonzero z member)) nodup
  refine ⟨fun n low high before bad => ?_, fun fields good z rest split nodup nonzero bad => ?_,
    fun fields nodup nonzero full => ?_, fun fields nodup nonzero room => ?_⟩
  · exact answers (groupSetAnswer_field (groupFieldFault_names (r := { r with members := members }) low high before bad))
  · refine answers ((same fields).symm ▸ groupSetAnswer_member fields ?_)
    rw [split]
    exact memberFault_names (fun y member => zone y (by simp [split, member]) (nonzero y member)) nodup
      (bad.imp (fun none valid => by omega) id) rest
  · refine answers ((same fields).symm ▸ groupSetAnswer_full fields (passing nodup nonzero) ?_)
    by_contra free
    obtain ⟨z, member, four⟩ := full
    have := (membershipFull_false_iff s.popIntake r).mp (Bool.eq_false_iff.mpr free) z member
    exact absurd four (Nat.not_le.mpr this)
  · have passes : r.Passes s.popIntake :=
      ⟨groupFieldFault_none_iff.mpr fields, passing nodup nonzero, (membershipFull_false_iff _ r).mpr room⟩
    have parsed : parseGroupSet (putGroupSet r) = some r := parsed.trans (congrArg some (same fields))
    obtain ⟨t, served, reply, ⟨notices, overflow⟩, rest⟩ := groupSet_defines takes parsed passes
    have group (g : Nat) : t.group g = if g = r.group then (definedGroup s r).recomputed s else s.group g :=
      (congrArg (fun u : State => u.group g) rest :).trans (writeGroup_group r s.popIntake g)
    have own : t.group r.group = (definedGroup s r).recomputed s := (group r.group).trans (if_pos rfl)
    have members : (definedGroup s r).members = (List.range' 1 255).filter fun z => decide (z ∈ r.members) :=
      List.filter_congr fun z _ => List.contains_eq_mem z r.members
    have frame : { t with link := s.link, groups := s.groups } = s :=
      (congrArg (fun u : State => { u with link := s.link, groups := s.groups }) rest :).trans
        (congrArg (fun u : State => { u with link := s.link }) (writeGroup_frame r s.popIntake) :)
    refine ⟨t, served, own ▸ members, own ▸ rfl, own ▸ rfl, own ▸ rfl, own ▸ rfl,
      own ▸ signalsOk_recomputed (fun _ => rfl) _, reply, fun g other => (group g).trans (if_neg other), frame, notices,
      overflow⟩

end Sys2Proof.Machine
end

section
/-! SUPPORT. TEST_START, TEST_CANCEL and TEST_CLEAR (R163, R169, R170): what each answers by the state of the request. -/

namespace Sys2Proof.Machine

section
variable {s : State} {n : Nat}

/-! ### TEST_START (R163) -/

/-- R163: while a test waits or runs, another is refused, whatever its number. -/
theorem testStartAnswer_busy (taken : s.test.request ≠ .idle) : testStartAnswer n s = refuse s .busy := if_pos taken

/-- R163: with no test waiting or running, a number that is no test's is refused as field 1. -/
theorem testStartAnswer_invalid (idle : s.test.request = .idle) (out : n = 0 ∨ 5 < n) :
    testStartAnswer n s = badField s 1 :=
  (if_neg (not_not.mpr idle)).trans (if_pos (by simpa using out))

/-- R163: an accepted test waits at the tail of the close queue, and the result record stays. -/
theorem testStartAnswer_queues (idle : s.test.request = .idle) (low : 1 ≤ n) (high : n ≤ 5) :
    testStartAnswer n s =
      okWith { s with test := ⟨.queued n, s.test.result⟩, closeQueue := s.closeQueue ++ [.test] } [] :=
  (if_neg (not_not.mpr idle)).trans (if_neg (by simp [low, high]))

/-! ### TEST_CANCEL (R169) -/

/-- R169: with no test, there is none to cancel. -/
theorem testCancelAnswer_idle (idle : s.test.request = .idle) : testCancelAnswer s = refuse s .notActive := by
  rw [testCancelAnswer, idle]

/-- R169: a test that runs is not cancelled. -/
theorem testCancelAnswer_running (runs : s.test.request = .running n) : testCancelAnswer s = refuse s .busy := by
  rw [testCancelAnswer, runs]

/-- R169: a waiting test leaves the close queue and is recorded as ABORTED at the clock. -/
theorem testCancelAnswer_queued (waits : s.test.request = .queued n) :
    testCancelAnswer s =
      okWith { s.dequeue .test with test := ⟨.idle, some ⟨n, .aborted, none, none, s.clock⟩⟩ } [] := by
  rw [testCancelAnswer, waits]

end

/-- Settles O60: each request by its answer; that of the start and the cancel by the state of the request. -/
theorem testRequestsMoveTheRequest : Obligations.TestRequestsMoveTheRequest := by
  unfold Obligations.TestRequestsMoveTheRequest
  intro tag s
  refine ⟨fun n small takes => ?_, fun takes => ?_, fun takes => ?_⟩
  · have answers {a : Answer} (answer : testStartAnswer n s.popIntake = a) :=
      serve_answer (owner := testStartAnswer) takes (parseNumber_putNat small) answer
    exact ⟨fun taken => answers (testStartAnswer_busy taken), fun idle out => answers (testStartAnswer_invalid idle out),
      fun idle low high => answers (testStartAnswer_queues idle low high)⟩
  · have answers {a : Answer} (answer : testCancelAnswer s.popIntake = a) :=
      serve_answer (owner := fun _ => testCancelAnswer) takes parseEmpty_nil answer
    exact ⟨fun idle => answers (testCancelAnswer_idle idle), fun _ runs => answers (testCancelAnswer_running runs),
      fun _ waits => answers (testCancelAnswer_queued waits)⟩
  · exact serve_answer (owner := fun _ => testClearAnswer) takes parseEmpty_nil rfl

end Sys2Proof.Machine
end

section
/-! SUPPORT. Reception (R172 to R174): what the receiver makes of noise, and of the bytes of one frame. -/

namespace Sys2Proof.Machine

/-! ### One byte in FRAME -/

/-- R173: the bytes since a start byte, while they do not make a whole frame. -/
abbrev Unfinished (got : List Byte) : Prop :=
  got.length < 2 ∨ (declaredLength got ≤ 1024 ∧ got.length < declaredLength got + 6)

section
variable (l : Link) {got : List Byte}

theorem Link.inFrame_unfinished (h : Unfinished got) : l.inFrame got = { l with receiver := .frame got } := by
  unfold Link.inFrame
  rcases h with two | ⟨fits, short⟩
  · exact if_pos two
  · split
    · rfl
    · exact (if_neg (Nat.not_lt.mpr fits)).trans (if_pos short)

/-- R173: a length above 1,024 discards the frame at its second length byte. -/
theorem Link.inFrame_tooLong (two : 2 ≤ got.length) (long : 1024 < declaredLength got) :
    l.inFrame got = { l with receiver := .hunt } :=
  (if_neg (Nat.not_lt.mpr two)).trans (if_pos long)

/-- R173, R174: a whole frame is offered to the intake buffer where its CRC matches. -/
theorem Link.inFrame_whole (fits : declaredLength got ≤ 1024) (whole : declaredLength got + 6 ≤ got.length) :
    l.inFrame got = if crcMatches got then { l with receiver := .hunt }.offerFrame (frameOf got)
      else { l with receiver := .hunt } := by
  have two : ¬ got.length < 2 := by omega
  exact (if_neg two).trans ((if_neg (Nat.not_lt.mpr fits)).trans (if_neg (Nat.not_lt.mpr whole)))

end

/-! ### Runs of bytes -/

theorem Link.receiveAll_append (l : Link) (xs ys : List Byte) : l.receiveAll (xs ++ ys) = (l.receiveAll xs).receiveAll ys :=
  List.foldl_append

/-- R173: in HUNT, bytes other than the start byte have no effect. -/
theorem Link.receiveAll_noise {l : Link} (hunt : l.receiver = .hunt) {noise : List Byte} (quiet : ∀ b ∈ noise, b ≠ 0xA5) :
    l.receiveAll noise = l := by
  induction noise with
  | nil => rfl
  | cons b rest ih =>
    obtain ⟨other, others⟩ := List.forall_mem_cons.mp quiet
    have stays : l.receive b = l := by
      rw [Link.receive, hunt]
      exact if_neg other
    rw [Link.receiveAll, List.foldl_cons, stays]
    exact ih others

/-- R173: in HUNT, the start byte begins a frame. -/
theorem Link.receive_start {l : Link} (hunt : l.receiver = .hunt) : l.receive 0xA5 = { l with receiver := .frame [] } := by
  rw [Link.receive, hunt]
  exact if_pos rfl

theorem declaredLength_append {got : List Byte} (two : 2 ≤ got.length) (more : List Byte) :
    declaredLength (got ++ more) = declaredLength got := by
  simp [declaredLength, fieldAt, slice, List.take_append_of_le_length two]

theorem Unfinished.of_append {got more : List Byte} (h : Unfinished (got ++ more)) : Unfinished got := by
  by_cases two : got.length < 2
  · exact .inl two
  · rw [Unfinished, declaredLength_append (Nat.le_of_not_lt two), List.length_append] at h
    right
    omega

/-- R173: bytes that do not make a whole frame are taken one by one. -/
theorem Link.receiveAll_unfinished {l : Link} (hunt : l.receiver = .hunt) {got : List Byte} (h : Unfinished got) :
    l.receiveAll (0xA5 :: got) = { l with receiver := .frame got } := by
  induction got using List.reverseRecOn with
  | nil => exact Link.receive_start hunt
  | append_singleton got b ih =>
    rw [← List.cons_append, Link.receiveAll_append, ih h.of_append]
    exact Link.inFrame_unfinished _ h

/-- R173: the byte after those is taken with them. -/
theorem Link.receiveAll_next {l : Link} (hunt : l.receiver = .hunt) {got : List Byte} (h : Unfinished got) (b : Byte) :
    l.receiveAll (0xA5 :: (got ++ [b])) = { l with receiver := .frame got }.inFrame (got ++ [b]) := by
  rw [← List.cons_append, Link.receiveAll_append, Link.receiveAll_unfinished hunt h]
  rfl

/-! ### The bytes of a frame (R172) -/

section
variable {f : Frame} (short : f.payload.length ≤ 1024)
include short

theorem declaredLength_frameCovered (c : List Byte) : declaredLength (frameCovered f ++ c) = f.payload.length := by
  simp (disch := omega) [declaredLength, frameCovered, fieldAt]

theorem frameOf_frameCovered (c : List Byte) : frameOf (frameCovered f ++ c) = f := by
  have payload : slice (frameCovered f ++ c) 4 f.payload.length = f.payload := by
    rw [frameCovered, List.append_assoc]
    exact slice_append _ _ _ 4 _ (by simp) rfl
  rw [frameOf, declaredLength_frameCovered short, payload]
  rfl

/-- R172: the CRC received is compared with the one computed over the bytes before it. -/
theorem crcMatches_frameCovered {c : List Byte} (two : c.length = 2) :
    crcMatches (frameCovered f ++ c) = decide (getNat c = (crc (frameCovered f)).toNat) := by
  have length : (frameCovered f).length = f.payload.length + 4 := by simp [frameCovered]; omega
  have received : fieldAt (frameCovered f ++ c) (f.payload.length + 4) 2 = getNat c :=
    congrArg getNat (slice_append_last _ _ _ _ length two)
  rw [crcMatches, declaredLength_frameCovered short, received, List.take_left' length]

/-- R173, R174: from HUNT, a frame's bytes offer the frame where the CRC matches, and leave no trace where it does not. -/
theorem Link.receiveAll_frame {l : Link} (hunt : l.receiver = .hunt) (c₀ c₁ : Byte) :
    l.receiveAll (0xA5 :: (frameCovered f ++ [c₀, c₁])) =
      if c₀.toNat + 256 * c₁.toNat = (crc (frameCovered f)).toNat then l.offerFrame f else l := by
  have unfinished : Unfinished (frameCovered f ++ [c₀]) := by
    right
    rw [declaredLength_frameCovered short]
    simp [frameCovered]
    omega
  have whole : declaredLength (frameCovered f ++ [c₀, c₁]) + 6 ≤ (frameCovered f ++ [c₀, c₁]).length := by
    rw [declaredLength_frameCovered short]
    simp [frameCovered]
    omega
  have bytes : frameCovered f ++ [c₀, c₁] = (frameCovered f ++ [c₀]) ++ [c₁] := by simp
  have back : ({ l with receiver := .hunt } : Link) = l := by rw [← hunt]
  rw [bytes, Link.receiveAll_next hunt unfinished, ← bytes,
    Link.inFrame_whole _ ((declaredLength_frameCovered short _).trans_le short) whole, crcMatches_frameCovered short rfl,
    frameOf_frameCovered short]
  simp [back, getNat]

end

/-! ### FRAME_RECEIVED -/

theorem exec_frameReceived_ready {s : State} (ready : s.link.power = .ready) (bytes : List Byte) :
    exec (.frameReceived bytes) s = .next { s with link := s.link.receiveAll bytes } := if_pos ready

/-- R173, R184: bytes that leave the link as it was leave the part as it was, ready or not. -/
theorem exec_frameReceived_unchanged {bytes : List Byte} {s : State} (same : s.link.receiveAll bytes = s.link) :
    exec (.frameReceived bytes) s = .next s := by
  by_cases ready : s.link.power = .ready
  · rw [exec_frameReceived_ready ready, same]
  · exact if_neg ready

/-- Settles O2: the noise leaves the receiver in HUNT, and the frame's own CRC matches. -/
theorem receiverReadsBackEveryFrame : Obligations.ReceiverReadsBackEveryFrame := by
  unfold Obligations.ReceiverReadsBackEveryFrame
  intro noise f s ready hunt quiet short
  have own : (crc (frameCovered f)).toNat =
      (BitVec.ofNat 8 (crc (frameCovered f)).toNat).toNat + 256 * (BitVec.ofNat 8 ((crc (frameCovered f)).toNat / 256)).toNat := by
    have := (crc (frameCovered f)).isLt
    simp only [BitVec.toNat_ofNat]
    omega
  have received : s.link.receiveAll (noise ++ frameBytes f) = s.link.offerFrame f := by
    rw [Link.receiveAll_append, Link.receiveAll_noise hunt quiet]
    exact (Link.receiveAll_frame short hunt _ _).trans (if_pos own.symm)
  rw [exec_frameReceived_ready ready, received]
  rfl

/-- Settles O3: each discard leaves the link, and with it the part, as it was. -/
theorem receiverDiscardsSilently : Obligations.ReceiverDiscardsSilently := by
  unfold Obligations.ReceiverDiscardsSilently
  refine ⟨fun noise s hunt quiet => ?_, fun lo hi s hunt long => ?_, fun f c₀ c₁ s hunt short wrong => ?_, fun s => rfl⟩
  · exact exec_frameReceived_unchanged (Link.receiveAll_noise hunt quiet)
  · have declared : 1024 < declaredLength [lo, hi] := by simpa [declaredLength, fieldAt, slice, getNat] using long
    have second : s.link.receiveAll [0xA5, lo, hi] = { s.link with receiver := .hunt } :=
      (Link.receiveAll_next hunt (got := [lo]) (.inl (by simp)) hi).trans
        (Link.inFrame_tooLong _ (got := [lo, hi]) (Nat.le_refl 2) declared)
    exact exec_frameReceived_unchanged (second.trans (by rw [← hunt]))
  · exact exec_frameReceived_unchanged ((Link.receiveAll_frame short hunt c₀ c₁).trans (if_neg wrong))

end Sys2Proof.Machine
end

section
/-! SUPPORT. R172 to R174, R177: what every command keeps of the bounds of the intake buffer, the receiver and the notice
queue. -/

namespace Sys2Proof.Machine

/-! ### The intake buffer and the receiver -/

theorem LinkOk.of_link {s t : State} (ok : LinkOk s) (intake : t.link.intake = s.link.intake)
    (receiver : t.link.receiver = s.link.receiver) : LinkOk t := by
  unfold LinkOk
  rw [intake, receiver]
  exact ok

/-- R174: a frame within its length is offered, and joins a buffer of at most 4. -/
theorem LinkOk.offerFrame {s : State} (ok : LinkOk s) {f : Frame} (short : f.payload.length ≤ 1024) :
    LinkOk { s with link := s.link.offerFrame f } := by
  obtain ⟨room, payloads, receiver⟩ := ok
  unfold Link.offerFrame
  split
  · next free =>
    refine ⟨?_, fun g member => ?_, receiver⟩
    · rw [List.length_append]
      exact free
    · rcases List.mem_append.mp member with waits | new
      · exact payloads g waits
      · exact List.mem_singleton.mp new ▸ short
  · exact ⟨room, payloads, receiver⟩

theorem LinkOk.toHunt {s : State} (ok : LinkOk s) : LinkOk { s with link := { s.link with receiver := .hunt } } :=
  ⟨ok.1, ok.2.1, nofun⟩

theorem LinkOk.toFrame {s : State} (ok : LinkOk s) {got : List Byte} (h : Unfinished got) :
    LinkOk { s with link := { s.link with receiver := .frame got } } :=
  ⟨ok.1, ok.2.1, fun _ same => Receiver.frame.inj same ▸ h⟩

theorem frameOf_payload_length (got : List Byte) : (frameOf got).payload.length ≤ declaredLength got :=
  List.length_take_le _ _

theorem LinkOk.inFrame {s : State} (ok : LinkOk s) (got : List Byte) : LinkOk { s with link := s.link.inFrame got } := by
  by_cases unfinished : Unfinished got
  · rw [Link.inFrame_unfinished _ unfinished]
    exact ok.toFrame unfinished
  · obtain ⟨two, whole⟩ := not_or.mp unfinished
    by_cases long : 1024 < declaredLength got
    · rw [Link.inFrame_tooLong _ (Nat.le_of_not_lt two) long]
      exact ok.toHunt
    · have fits : declaredLength got ≤ 1024 := Nat.le_of_not_lt long
      rw [Link.inFrame_whole _ fits (by omega)]
      split
      · exact ok.toHunt.offerFrame ((frameOf_payload_length got).trans fits)
      · exact ok.toHunt

theorem LinkOk.receive {s : State} (ok : LinkOk s) (b : Byte) : LinkOk { s with link := s.link.receive b } := by
  unfold Link.receive
  split
  · split
    · exact ok.toFrame (.inl (by simp))
    · exact ok
  · exact ok.inFrame _

theorem LinkOk.receiveAll {s : State} (ok : LinkOk s) (bytes : List Byte) :
    LinkOk { s with link := s.link.receiveAll bytes } := by
  induction bytes generalizing s with
  | nil => exact ok
  | cons b rest ih => exact ih (ok.receive b)

theorem Link.receive_notices (l : Link) (b : Byte) : (l.receive b).notices = l.notices := by
  simp only [Link.receive, Link.inFrame, Link.offerFrame]
  repeat' split
  all_goals rfl

theorem Link.receiveAll_notices (l : Link) (bytes : List Byte) : (l.receiveAll bytes).notices = l.notices := by
  induction bytes generalizing l with
  | nil => rfl
  | cons b rest ih => exact (ih (l.receive b)).trans (l.receive_notices b)

/-! ### The notice queue (R177) -/

theorem sameKey_iff {a b : Notice} : sameKey a b = true ↔ a.code = b.code ∧ a.subject = b.subject := by
  simp [sameKey]

theorem sameKey_false_iff {a b : Notice} : sameKey a b = false ↔ a.code ≠ b.code ∨ a.subject ≠ b.subject := by
  rw [← Bool.not_eq_true, sameKey_iff, Classical.not_and_iff_not_or_not]

theorem NoticesOk.of_notices {s t : State} (ok : NoticesOk s) (same : t.link.notices = s.link.notices) : NoticesOk t := by
  unfold NoticesOk
  rw [same]
  exact ok

/-- R177: one raise keeps the keys of a queue of at most 96 apart. -/
theorem NoticesOk.raise {s : State} (ok : NoticesOk s) (n : Notice) : NoticesOk (s.raise n) := by
  obtain ⟨room, apart⟩ := ok
  rcases raise_cases s n with ⟨-, -, queue⟩ | ⟨new, free, -, queue⟩ | ⟨-, -, -, queue⟩ <;> rw [NoticesOk, queue]
  · have keeps (old : Notice) : (if sameKey n old then coalesce old n else old).code = old.code ∧
        (if sameKey n old then coalesce old n else old).subject = old.subject := by
      split
      · next same => exact coalesce_key same
      · exact ⟨rfl, rfl⟩
    refine ⟨by rwa [List.length_map], List.pairwise_map.mpr (apart.imp fun {a b} differ => ?_)⟩
    rw [(keeps a).1, (keeps a).2, (keeps b).1, (keeps b).2]
    exact differ
  · refine ⟨by simpa using free, List.pairwise_append.mpr ⟨apart, List.pairwise_singleton _ _, fun a queued b last => ?_⟩⟩
    obtain rfl := List.mem_singleton.mp last
    exact (sameKey_false_iff.mp (new a queued)).imp Ne.symm Ne.symm
  · exact ⟨room, apart⟩

theorem NoticesOk.foldl {α : Type} {f : State → α → State} (each : ∀ u a, NoticesOk u → NoticesOk (f u a)) (l : List α)
    {s : State} (ok : NoticesOk s) : NoticesOk (l.foldl f s) := by
  induction l generalizing s with
  | nil => exact ok
  | cons a rest ih => exact ih (each s a ok)

theorem NoticesOk.raiseAll {s : State} (ok : NoticesOk s) (news : List Notice) : NoticesOk (news.foldl State.raise s) :=
  NoticesOk.foldl (fun _ n ok => ok.raise n) news ok

theorem NoticesOk.aside {s t : State} (ok : NoticesOk s) (h : Aside s t) : NoticesOk t :=
  ok.of_notices (congrArg Link.notices h.link)

/-! ### What raises notices -/

theorem NoticesOk.completeClose {s : State} (ok : NoticesOk s) (c : CloseItem) : NoticesOk (completeClose c s) := by
  cases void : c.void with
  | true =>
    rw [completeClose_voided void]
    exact ok
  | false => exact (ok.raiseAll (closeAllNews c s)).of_notices (congrArg Link.notices (completeClose_link void))

theorem NoticesOk.completeTest {s : State} (ok : NoticesOk s) (test : Nat) : NoticesOk (completeTest test s) :=
  ok.raise (.testDone test (outcomeOf test s))

theorem NoticesOk.engineEvent {s : State} (ok : NoticesOk s) : NoticesOk (engineEvent s) := by
  unfold Machine.engineEvent
  split
  · exact ok.completeClose _
  · exact ok.completeTest _
  · exact ok
  · exact ok
  · exact ok

theorem NoticesOk.engineEvents {s : State} (ok : NoticesOk s) (k : Nat) : NoticesOk (engineEvents k s) := by
  induction k generalizing s with
  | zero => exact ok
  | succ k ih => exact ih ok.engineEvent

theorem NoticesOk.takeRecord {s : State} (ok : NoticesOk s) (r : ReadingRecord) : NoticesOk (takeRecord r s).state :=
  ok.aside (.takeRecord r s)

theorem NoticesOk.takeRecords {s : State} (ok : NoticesOk s) (rs : List ReadingRecord) (events : List Nat) :
    NoticesOk (takeRecords rs events s).1 := by
  induction rs, events, s using Machine.takeRecords.induct with
  | case1 events s => exact ok
  | case2 r events s => exact ok.takeRecord r
  | case3 r rest events s more a ih =>
    rw [takeRecords_cons r more]
    exact ih ((ok.takeRecord r).engineEvents _)

theorem NoticesOk.batchAnswer {s : State} (ok : NoticesOk s) (b : BatchReq) (events : List Nat) :
    NoticesOk (batchAnswer b events s).state := by
  unfold Machine.batchAnswer
  split
  · exact ok.takeRecords b.records events
  · exact ok

theorem NoticesOk.makeStale {s : State} (ok : NoticesOk s) (ch : Nat) : NoticesOk (makeStale s ch) := by
  unfold Machine.makeStale
  split
  · exact NoticesOk.raise (s := s.setMeter ch _) ok _
  · exact ok

theorem NoticesOk.staleCheck {s : State} (ok : NoticesOk s) (clock : Nat) : NoticesOk (staleCheck clock s) :=
  have checked : NoticesOk ((lapsedChannels s clock).foldl Machine.makeStale s) :=
    NoticesOk.foldl (fun _ ch ok => ok.makeStale ch) _ ok
  checked.of_notices rfl

theorem NoticesOk.clockMarkAnswer {s : State} (ok : NoticesOk s) (time : Nat) : NoticesOk (clockMarkAnswer time s).state := by
  unfold Machine.clockMarkAnswer
  split
  · exact ok
  · have moved : NoticesOk (nightTransitions time { s with clock := some time }) :=
      NoticesOk.aside (s := { s with clock := some time }) ok (.foldl (Aside.markZone time) zoneNumbers _)
    exact moved.staleCheck time

theorem NoticesOk.groupSetAnswer {s : State} (ok : NoticesOk s) (r : GroupSetReq) : NoticesOk (groupSetAnswer r s).state := by
  rcases groupSetAnswer_cases r s with refused | ⟨-, written⟩
  · exact refused.symm ▸ ok
  · rw [written, writeGroup_eq_foldl]
    exact NoticesOk.raiseAll (s := s.setGroup _ _) ok _

/-- R179: what a fetch leaves of the queue. -/
theorem NoticesOk.noticeFetchAnswer {s : State} (ok : NoticesOk s) : NoticesOk (noticeFetchAnswer s).state := by
  obtain ⟨room, apart⟩ := ok
  exact ⟨(List.drop_sublist _ _).length_le.trans room, apart.sublist (List.drop_sublist _ _)⟩

/-! ### Requests -/

/-- The frame that leaves the buffer and the reply are no notices. -/
theorem NoticesOk.serve {α : Type} {kind tag : Byte} {payload : List Byte} {parse : List Byte → Option α}
    {owner : α → State → Answer} {s t : State} (ok : NoticesOk s) (h : ∀ r {u}, NoticesOk u → NoticesOk (owner r u).state)
    (e : Machine.serve kind tag payload (fun p s => withFields (parse p) s fun r => owner r s) s = .next t) : NoticesOk t := by
  rcases serve_cases e with ⟨-, rfl⟩ | ⟨-, rfl⟩
  · have taken : NoticesOk s.popIntake := ok
    cases parse payload with
    | none => exact taken
    | some r => exact h r taken
  · exact ok

/-- READING_BATCH, CLOCK_MARK, GROUP_SET and NOTICE_FETCH: the requests beside the zone commands that raise or fetch
notices. -/
theorem announcing_keeps_noticesOk {c : Instr} {f : Frame} {s t : State} (framed : c.frame? = some f)
    (announcing : f.kind.toNat ∈ announcingKinds) (other : f.kind.toNat ∉ zoneCommandKinds) (ok : NoticesOk s)
    (e : exec c s = .next t) : NoticesOk t := by
  cases c <;> cases framed
  case readingBatch events => exact ok.serve (fun b _ ok => ok.batchAnswer b events) e
  case clockMark => exact ok.serve (fun time _ ok => ok.clockMarkAnswer time) e
  case groupSet => exact ok.serve (fun r _ ok => ok.groupSetAnswer r) e
  case noticeFetch => exact ok.serve (fun _ _ ok => ok.noticeFetchAnswer) e
  case unknownKind kind tag payload =>
    have known : ∀ k ∈ announcingKinds, catalogue.contains k = true := by decide
    have untaken : s = t := Host.Outcome.next.inj ((if_pos (known _ announcing)).symm.trans e)
    exact untaken ▸ ok
  all_goals
    dsimp only at announcing other
    exact absurd announcing (by revert other; decide)

/-- R177: the zone commands raise the notices of their changes; a request that neither raises nor fetches leaves the queue. -/
theorem request_keeps_noticesOk {c : Instr} {f : Frame} {s t : State} (framed : c.frame? = some f) (ok : NoticesOk s)
    (e : exec c s = .next t) : NoticesOk t := by
  by_cases zoneCommand : f.kind.toNat ∈ zoneCommandKinds
  · exact (ok.raiseAll _).of_notices (exec_announces framed zoneCommand e).notices
  · by_cases announcing : f.kind.toNat ∈ announcingKinds
    · exact announcing_keeps_noticesOk framed announcing zoneCommand ok e
    · obtain ⟨-, -, -, -, silent⟩ := requestsKeepTheLinkAndGroups.1 c f s t framed e
      exact ok.of_notices (silent announcing).1

theorem SameLink.intake {s t : State} (h : SameLink s t) : t.link.intake = s.link.intake := by
  obtain ⟨notices, overflow, link⟩ := h
  rw [link]

theorem RequestDoes.intake {c : Instr} {s t : State} (h : RequestDoes c s t) : t.link.intake = s.link.intake := by
  cases h with
  | aside h => rw [h.link]
  | announces _ _ _ h => exact h.link.intake
  | restarts _ level h => rw [h]
  | defines _ r _ _ h => rw [h, (writeGroup_sameLink r s).intake]

/-- R175: a request takes its frame from the buffer, and leaves the receiver. -/
theorem request_keeps_linkOk {c : Instr} {f : Frame} {s t : State} (framed : c.frame? = some f) (ok : LinkOk s)
    (e : exec c s = .next t) : LinkOk t := by
  obtain ⟨-, -, receiver, -⟩ := requestsKeepTheLinkAndGroups.1 c f s t framed e
  cases exec_requested framed e with
  | untaken h => exact h ▸ ok
  | answered u does kind tag code body h =>
    have popped : LinkOk s.popIntake :=
      ⟨(List.tail_sublist _).length_le.trans ok.1, fun g member => ok.2.1 g (List.mem_of_mem_tail member), ok.2.2⟩
    refine popped.of_link ?_ receiver
    rw [h, State.replied_link_intake, does.intake]

/-! ### Events and steps -/

/-- Both bounds at once. -/
abbrev LinkInBounds (s : State) : Prop := LinkOk s ∧ NoticesOk s

theorem LinkInBounds.of_link {s t : State} (ok : LinkInBounds s) (link : t.link = s.link) : LinkInBounds t :=
  ⟨ok.1.of_link (congrArg Link.intake link) (congrArg Link.receiver link), ok.2.of_notices (congrArg Link.notices link)⟩

/-- R185: after a reset no frame waits, none is in reception, and no notice is queued. -/
theorem LinkInBounds.of_empty {t : State} (intake : t.link.intake = []) (receiver : t.link.receiver = .hunt)
    (notices : t.link.notices = []) : LinkInBounds t := by
  unfold LinkInBounds LinkOk NoticesOk
  rw [intake, receiver, notices]
  exact ⟨⟨Nat.zero_le _, nofun, nofun⟩, Nat.zero_le _, .nil⟩

theorem LinkInBounds.engineEvent {s : State} (ok : LinkInBounds s) : LinkInBounds (engineEvent s) := by
  have link := (Announced.engineEvent s).link
  obtain ⟨-, -, receiver, -⟩ := link.keeps
  exact ⟨ok.1.of_link link.intake receiver, ok.2.engineEvent⟩

/-- R75, R79: an engine command makes the engine's next event, or does not occur. -/
theorem engineCommand_cases {c : Instr} {s t : State}
    (engine : c ∈ [Instr.closeStart, .testRunStart, .closeCompletion, .testRunCompletion]) (e : exec c s = .next t) :
    t = s ∨ t = engineEvent s := by
  by_cases runs : Runs s
  · by_cases same : t = s
    · exact .inl same
    · exact .inr (exec_engine_moves runs engine e same)
  · have held : s.link.restart ≠ none ∨ s.link.power ≠ .ready := (not_and_or.mp runs).symm
    have untaken : exec c s = .next s := by
      refine nothingIsTakenWhileHeld.1 c s held (.inr ?_)
      simp only [List.mem_cons, List.not_mem_nil, or_false] at engine
      rcases engine with rfl | rfl | rfl | rfl <;> simp
    exact .inl (Host.Outcome.next.inj (e.symm.trans untaken))

theorem event_keeps_linkInBounds {c : Instr} {s t : State} (event : c.frame? = none) (ok : LinkInBounds s)
    (e : exec c s = .next t) : LinkInBounds t := by
  cases c <;> cases event
  case restartTakesEffect =>
    simp only [exec, execRestartTakesEffect] at e
    split at e <;> cases e
    · exact .of_empty rfl rfl rfl
    · exact .of_empty rfl rfl rfl
    · exact ok
  case frameReceived bytes =>
    simp only [exec, execFrameReceived] at e
    split at e <;> cases e
    · exact ⟨ok.1.receiveAll bytes, ok.2.of_notices (s.link.receiveAll_notices bytes)⟩
    · exact ok
  case interByteGap =>
    cases e
    exact ⟨ok.1.toHunt, ok.2⟩
  case resetPinAssert =>
    have e : Host.Outcome.next (abandonAll s) = .next t := e
    injection e with e
    exact e ▸ ⟨ok.1.toHunt, ok.2⟩
  case resetPinRelease high =>
    simp only [exec, execResetPinRelease] at e
    split at e <;> cases e
    · exact .of_empty rfl rfl rfl
    · exact ok
  case startupReady =>
    simp only [exec, execStartupReady] at e
    split at e <;> cases e
    · exact ok
    · exact ok
  case closeStart | testRunStart | closeCompletion | testRunCompletion =>
    rcases engineCommand_cases (by decide) e with rfl | rfl
    · exact ok
    · exact ok.engineEvent

theorem exec_keeps_linkInBounds {c : Instr} {s t : State} (ok : LinkInBounds s) (e : exec c s = .next t) :
    LinkInBounds t := by
  cases framed : c.frame? with
  | some f => exact ⟨request_keeps_linkOk framed ok.1 e, request_keeps_noticesOk framed ok.2 e⟩
  | none => exact event_keeps_linkInBounds framed ok e

/-- Settles O14: requests by what they take and raise, events one by one. -/
theorem linkStaysWithinBounds : Obligations.LinkStaysWithinBounds := by
  unfold Obligations.LinkStaysWithinBounds
  exact fun s t link notices e =>
    step_keeps (P := LinkInBounds) (fun _ _ h => h) (fun _ _ _ => exec_keeps_linkInBounds) ⟨link, notices⟩ e

end Sys2Proof.Machine
end

section
/-! SUPPORT. What no owner of a request touches: the commands that wait, the intake buffer and the overrun marker. -/

namespace Sys2Proof.Machine

/-- The commands that wait (log 1), the frames that wait (R174), and the overrun marker. -/
def State.inbox (s : State) : List Instr × List Frame × Bool := (s.pending, s.link.intake, s.link.overrun)

theorem inbox_of_sameLink {s t : State} (pending : t.pending = s.pending) (link : SameLink s t) : t.inbox = s.inbox := by
  obtain ⟨notices, overflow, link⟩ := link
  rw [State.inbox, pending, link]
  rfl

theorem foldl_inbox {α : Type} {f : State → α → State} (each : ∀ s a, (f s a).inbox = s.inbox) (l : List α) (s : State) :
    (l.foldl f s).inbox = s.inbox := by
  induction l generalizing s with
  | nil => rfl
  | cons a rest ih => exact (ih (f s a)).trans (each s a)

theorem NightWork.inbox {s t : State} (h : NightWork s t) : t.inbox = s.inbox := (congrArg State.inbox h.frame :)

/-! ### The shared operations -/

section
variable (s : State)

@[simp] theorem updZone_inbox (z : Nat) (f : Zone → Zone) : (s.updZone z f).inbox = s.inbox := rfl
@[simp] theorem setMeter_inbox (ch : Nat) (m : Meter) : (s.setMeter ch m).inbox = s.inbox := rfl
@[simp] theorem dropMeter_inbox (ch serial : Nat) : (s.dropMeter ch serial).inbox = s.inbox := rfl
@[simp] theorem setGroup_inbox (g : Nat) (v : Group) : (s.setGroup g v).inbox = s.inbox := rfl
@[simp] theorem raise_inbox (n : Notice) : (s.raise n).inbox = s.inbox := rfl

@[simp] theorem raiseIf_inbox (b : Bool) (n : Notice) : (s.raiseIf b n).inbox = s.inbox := by cases b <;> rfl

@[simp] theorem updMeter_inbox (ch : Nat) (f : Meter → Meter) : (s.updMeter ch f).inbox = s.inbox :=
  (congrArg State.inbox (State.updMeter_frame s ch f) :)

@[simp] theorem detachMeter_inbox (ch : Nat) (m : Meter) : (detachMeter ch m s).inbox = s.inbox :=
  (congrArg State.inbox (detachMeter_frame ch m s) :)

@[simp] theorem relistMeter_inbox (ch : Nat) (m : Meter) (r : AttachReq) : (relistMeter ch m r s).inbox = s.inbox :=
  (congrArg State.inbox (relistMeter_frame ch m r s) :)

@[simp] theorem createNight_inbox (z : Nat) (survey : Bool) : (createNight z survey s).inbox = s.inbox :=
  ((NightWork.updZone s z _).trans (.updAttachedCovers _ z _)).inbox

@[simp] theorem freeNight_inbox (z : Nat) : (freeNight z s).inbox = s.inbox := (NightWork.freeNight z s).inbox

@[simp] theorem discardNight_inbox (z : Nat) : (discardNight z s).inbox = s.inbox := freeNight_inbox s z

@[simp] theorem queueNight_inbox (z : Nat) (cause : CloseCause) : (queueNight z cause s).inbox = s.inbox := rfl

@[simp] theorem recomputeGroups_inbox (z : Nat) : (recomputeGroups z s).inbox = s.inbox :=
  foldl_inbox (f := recomputeGroup) (fun _ _ => rfl) _ s

@[simp] theorem refreshGroups_inbox (z : Nat) : (refreshGroups z s).inbox = s.inbox :=
  (foldl_inbox (f := fun s g => s.raise (groupNotice s g)) (fun _ _ => rfl) _ _).trans (recomputeGroups_inbox s z)

@[simp] theorem refreshOnSummary_inbox (z : Nat) (before : State) : (refreshOnSummary z before s).inbox = s.inbox := by
  unfold refreshOnSummary
  split
  · rfl
  · exact refreshGroups_inbox s z

@[simp] theorem raiseChange_inbox (z : Nat) (before : MonitorState) : (raiseChange z before s).inbox = s.inbox :=
  raiseIf_inbox s _ _

/-! ### The owners' work -/

@[simp] theorem dropNight_inbox (z : Nat) : (dropNight z s).inbox = s.inbox := by
  unfold dropNight
  split
  · rfl
  · split
    · rw [voidClose_eq]
      exact freeNight_inbox s z
    · exact discardNight_inbox s z

@[simp] theorem acceptLevel_inbox (z : Nat) (f : Int) : (acceptLevel z f s).inbox = s.inbox := by
  simp only [acceptLevel]
  split <;> simp

@[simp] theorem writeGroup_inbox (r : GroupSetReq) : (writeGroup r s).inbox = s.inbox := by simp [writeGroup]

@[simp] theorem takeSide_inbox (iv : Interval) (side : Side) : (takeSide iv side s).inbox = s.inbox :=
  (congrArg State.inbox (takeSide_frame iv side s) :)

@[simp] theorem apportion_inbox (iv : Interval) : (apportion iv s).inbox = s.inbox := by
  unfold apportion
  split
  · rfl
  · exact (foldl_inbox (fun s z => queueNight_inbox s z _) _ _).trans (by simp)

@[simp] theorem moveBase_inbox (ch : Nat) (r : ReadingRecord) : (moveBase ch r s).inbox = s.inbox := updMeter_inbox s ch _

@[simp] theorem takeMark_inbox (time : Nat) : (takeMark time s).inbox = s.inbox := by
  have moved : (nightTransitions time { s with clock := some time }).inbox = s.inbox := by
    have frame := nightTransitions_frame time { s with clock := some time }
    generalize nightTransitions time { s with clock := some time } = u at frame ⊢
    exact (congrArg State.inbox frame :)
  have stale (u : State) (ch : Nat) : (makeStale u ch).inbox = u.inbox := by
    unfold makeStale
    split <;> rfl
  have checked (u : State) : (staleCheck time u).inbox = u.inbox := foldl_inbox stale (lapsedChannels u time) u
  exact (checked _).trans moved

@[simp] theorem completeClose_inbox (c : CloseItem) : (completeClose c s).inbox = s.inbox :=
  inbox_of_sameLink (congrArg State.pending (completeClose_frame c s).frame :) (Announced.completeClose c s).link

@[simp] theorem engineEvent_inbox : (engineEvent s).inbox = s.inbox := by
  unfold engineEvent
  split
  · exact completeClose_inbox s _
  all_goals rfl

@[simp] theorem engineEvents_inbox (k : Nat) : (engineEvents k s).inbox = s.inbox := by
  induction k generalizing s with
  | zero => rfl
  | succ k ih => exact (ih _).trans (engineEvent_inbox s)

end

end Sys2Proof.Machine
end

section
/-! SUPPORT. What every request that is taken answers (R174 to R176, R180). -/

namespace Sys2Proof.Machine

/-- R174 to R176: an owner's answer leaves the frames and commands that wait; where it is a refusal it changes nothing at all,
and its body is empty but for BAD_FIELD, CLOCK_BACK and READING. -/
structure Answer.Regular (kind : Byte) (s : State) (a : Answer) : Prop where
  inbox : a.state.inbox = s.inbox
  refused : ¬ a.code.taken →
    a.state = s ∧ (a.body = [] ∨ a.code = .badField ∨ a.code = .clockBack ∨ kind = 0x10)

namespace Answer.Regular

section
variable {kind : Byte} {s : State}

theorem refuse (code : ReplyCode) : Regular kind s (refuse s code) := ⟨rfl, fun _ => ⟨rfl, .inl rfl⟩⟩

theorem badField (field : Nat) : Regular kind s (badField s field) := ⟨rfl, fun _ => ⟨rfl, .inr (.inl rfl)⟩⟩

theorem okWith {t : State} (body : List Byte) (inbox : t.inbox = s.inbox := by rfl) : Regular kind s (okWith t body) :=
  ⟨inbox, fun refused => absurd (.inl rfl) refused⟩

end

variable (kind : Byte) (s : State)

/-! ### The directory (Chapter 1) -/

theorem addMeterAnswer (r : AddMeterReq) : Regular kind s (addMeterAnswer r s) := by
  unfold Machine.addMeterAnswer
  split
  · exact .badField _
  · split
    · exact .refuse _
    · split
      · exact .refuse _
      · exact .okWith _

theorem removeMeterAnswer (serial : Nat) : Regular kind s (removeMeterAnswer serial s) := by
  unfold Machine.removeMeterAnswer
  split
  · exact .badField _
  · split
    · exact .refuse _
    · split
      · exact .refuse _
      · exact .okWith _ (by simp)

theorem replaceAnswer (r : ReplaceReq) : Regular kind s (replaceAnswer r s) := by
  unfold Machine.replaceAnswer
  split
  · exact .badField _
  · split
    · exact .refuse _
    · split
      · exact .refuse _
      · split
        · exact .refuse _
        · split
          · exact .refuse _
          · exact .okWith _

theorem attachAnswer (r : AttachReq) : Regular kind s (attachAnswer r s) := by
  unfold Machine.attachAnswer
  split
  · exact .badField _
  · split
    · exact .refuse _
    · split
      · exact .refuse _
      · split
        · exact .refuse _
        · exact .okWith _ (by simp)

theorem meterReadAnswer (r : MeterReadReq) : Regular kind s (meterReadAnswer r s) := by
  unfold Machine.meterReadAnswer
  split
  · exact .badField _
  · split
    · exact .refuse _
    · exact .okWith _

/-! ### Readings (Chapter 2) -/

/-- R21: a record is refused without a trace, or formed an interval or a first base. -/
theorem takeRecord (r : ReadingRecord) :
    (takeRecord r s).state.inbox = s.inbox ∧ (¬ (takeRecord r s).code.taken → (takeRecord r s).state = s) := by
  unfold Machine.takeRecord
  split
  · exact ⟨rfl, fun _ => rfl⟩
  · split
    · exact ⟨rfl, fun _ => rfl⟩
    · split
      · exact ⟨rfl, fun _ => rfl⟩
      · split
        · exact ⟨rfl, fun _ => rfl⟩
        · unfold againstBase
          split
          · exact ⟨moveBase_inbox s _ r, fun refused => absurd (.inl rfl) refused⟩
          · split
            · exact ⟨rfl, fun _ => rfl⟩
            · split
              · exact ⟨rfl, fun _ => rfl⟩
              · unfold formInterval
                split
                · exact ⟨rfl, fun refused => absurd (.inr (.inl rfl)) refused⟩
                · refine ⟨by simp, fun refused => absurd ?_ refused⟩
                  dsimp only
                  split
                  · exact .inr (.inr rfl)
                  · exact .inl rfl

theorem readingAnswer (r : ReadingRecord) : Regular 0x10 s (readingAnswer r s) := by
  obtain ⟨inbox, refused⟩ := takeRecord s r
  exact ⟨inbox, fun code => ⟨refused code, .inr (.inr (.inr rfl))⟩⟩

theorem takeRecords_inbox (rs : List ReadingRecord) (events : List Nat) : (takeRecords rs events s).1.inbox = s.inbox := by
  induction rs, events, s using Machine.takeRecords.induct with
  | case1 events s => rfl
  | case2 r events s => exact (takeRecord s r).1
  | case3 r rest events s more a ih =>
    rw [takeRecords_cons r more]
    exact (ih.trans (engineEvents_inbox _ _)).trans (takeRecord s r).1

theorem batchAnswer (b : BatchReq) (events : List Nat) : Regular kind s (batchAnswer b events s) := by
  unfold Machine.batchAnswer
  split
  · exact .okWith _ (takeRecords_inbox s b.records events)
  · exact .badField _

/-! ### Clock, settings of the part, nights (Chapters 3 and 12) -/

theorem clockMarkAnswer (time : Nat) : Regular kind s (clockMarkAnswer time s) := by
  unfold Machine.clockMarkAnswer
  split
  · exact ⟨rfl, fun _ => ⟨rfl, .inr (.inr (.inl rfl))⟩⟩
  · exact .okWith _ (takeMark_inbox s time)

theorem partSetAnswer (r : PartSetReq) : Regular kind s (partSetAnswer r s) := by
  unfold Machine.partSetAnswer
  split
  · exact .badField _
  · split
    · exact .badField _
    · exact .okWith _

theorem forceCloseAnswer (z : Nat) : Regular kind s (forceCloseAnswer z s) := by
  unfold Machine.forceCloseAnswer
  split
  · exact .badField _
  · split
    · exact .refuse _
    · split
      case h_2 => exact .okWith _ (queueNight_inbox s z _)
      all_goals exact .refuse _

theorem excludeNightAnswer (z : Nat) : Regular kind s (excludeNightAnswer z s) := by
  unfold Machine.excludeNightAnswer
  split
  · exact .badField _
  · split
    · exact .refuse _
    · split
      · exact .okWith _
      · exact .refuse _

theorem restartAnswer (level : Nat) : Regular kind s (restartAnswer level s) := by
  unfold Machine.restartAnswer
  split
  · exact .badField _
  · exact .okWith _

/-! ### The zone commands (Chapters 3 and 7) -/

theorem zoneSetAnswer (r : ZoneSetReq) : Regular kind s (zoneSetAnswer r s) := by
  unfold Machine.zoneSetAnswer
  split
  · exact .badField _
  · exact .refuse _
  · exact .okWith _ (by simp [writeZone])

theorem zoneStartAnswer (r : ZoneStartReq) : Regular kind s (zoneStartAnswer r s) := by
  unfold Machine.zoneStartAnswer
  split
  · exact .badField _
  · split
    · exact .refuse _
    · exact .okWith _ (by simp [startZone])

theorem zoneSurveyAnswer (z : Nat) : Regular kind s (zoneSurveyAnswer z s) := by
  unfold Machine.zoneSurveyAnswer
  split
  · exact .badField _
  · split
    · exact .refuse _
    · exact .okWith _ (by simp [surveyZone])

theorem zoneStopAnswer (z : Nat) : Regular kind s (zoneStopAnswer z s) := by
  unfold Machine.zoneStopAnswer
  split
  · exact .badField _
  · split
    · exact .refuse _
    · split
      · exact .okWith _
      · exact .okWith _ (by simp [stopZone])

theorem acceptLevelAnswer (z : Nat) : Regular kind s (acceptLevelAnswer z s) := by
  unfold Machine.acceptLevelAnswer
  split
  · exact .badField _
  · split
    · exact .refuse _
    · split
      · exact .refuse _
      · exact .okWith _ (acceptLevel_inbox s z _)

theorem ackZoneAnswer (z : Nat) : Regular kind s (ackZoneAnswer z s) := by
  unfold Machine.ackZoneAnswer
  split
  · exact .badField _
  · exact .okWith _ (by simp [Machine.ackZone])

theorem resetZoneAnswer (z : Nat) : Regular kind s (resetZoneAnswer z s) := by
  unfold Machine.resetZoneAnswer
  split
  · exact .badField _
  · exact .okWith _ (by simp [resetZone])

theorem zoneReadAnswer (z : Nat) : Regular kind s (zoneReadAnswer z s) := by
  unfold Machine.zoneReadAnswer
  split
  · exact .badField _
  · exact .okWith _

theorem zoneProfileAnswer (z : Nat) : Regular kind s (zoneProfileAnswer z s) := by
  unfold Machine.zoneProfileAnswer
  split
  · exact .badField _
  · split
    · exact .refuse _
    · exact .okWith _

/-! ### Groups, history, report set and self-test (Chapters 8 to 11) -/

theorem groupSetAnswer (r : GroupSetReq) : Regular kind s (groupSetAnswer r s) := by
  unfold Machine.groupSetAnswer
  split
  · exact .badField _
  · split
    · exact .badField _
    · split
      · exact .refuse _
      · exact .okWith _ (writeGroup_inbox s r)

theorem groupReadAnswer (g : Nat) : Regular kind s (groupReadAnswer g s) := by
  unfold Machine.groupReadAnswer
  split
  · exact .okWith _
  · exact .badField _

theorem historyReadAnswer (r : HistoryReadReq) : Regular kind s (historyReadAnswer r s) := by
  unfold Machine.historyReadAnswer
  split
  · exact .badField _
  · split
    · exact .refuse _
    · exact .okWith _

theorem unfreezeAnswer (z : Nat) : Regular kind s (unfreezeAnswer z s) := by
  unfold Machine.unfreezeAnswer
  split
  · exact .badField _
  · exact .okWith _

theorem reportHoldAnswer : Regular kind s (reportHoldAnswer s) := by
  unfold Machine.reportHoldAnswer
  split
  · exact .refuse _
  · exact .okWith _

theorem reportReleaseAnswer : Regular kind s (reportReleaseAnswer s) := by
  unfold Machine.reportReleaseAnswer
  split
  · exact .refuse _
  · exact .okWith _

theorem testStartAnswer (test : Nat) : Regular kind s (testStartAnswer test s) := by
  unfold Machine.testStartAnswer
  split
  · exact .refuse _
  · split
    · exact .badField _
    · exact .okWith _

theorem testCancelAnswer : Regular kind s (testCancelAnswer s) := by
  unfold Machine.testCancelAnswer
  split
  · exact .refuse _
  · exact .refuse _
  · exact .okWith _

end Answer.Regular

/-! ### The requests -/

/-- R175: the answer of a request that is parsed whole before its owner takes it. -/
theorem serve_regular {α : Type} {kind tag : Byte} {payload : List Byte} {parse : List Byte → Option α}
    {owner : α → State → Answer} {s : State} (takes : Takes s kind tag payload)
    (h : ∀ u r, Answer.Regular kind u (owner r u)) :
    ∃ a, Answer.Regular kind s.popIntake a ∧
      serve kind tag payload (fun p s => withFields (parse p) s fun r => owner r s) s =
        .next (a.state.replied kind tag a.code a.body) := by
  refine ⟨_, ?_, serve_taken _ takes⟩
  cases parse payload with
  | none => exact .refuse _
  | some r => exact h _ r

theorem kind_unknown {kind tag : Byte} {p : List Byte} (wf : (Instr.unknownKind kind tag p).wellFormed = true) :
    kind.toNat ∉ catalogue := by
  simp only [Instr.wellFormed, Instr.kindIsUnknown, Bool.and_eq_true, Bool.not_eq_true'] at wf
  exact fun known => absurd (List.contains_iff_mem.mpr known) (Bool.eq_false_iff.mp wf.2)

/-- R176 step 1: a kind that names no message. -/
theorem exec_unknownKind {kind tag : Byte} {p : List Byte} {s : State} (unknown : kind.toNat ∉ catalogue)
    (takes : Takes s kind tag p) :
    exec (.unknownKind kind tag p) s = .next (s.popIntake.replied kind tag .unknownKind []) := by
  have names : ¬ catalogue.contains kind.toNat = true := fun known => unknown (List.contains_iff_mem.mp known)
  exact (if_neg names).trans (serve_taken _ takes)

/-- R175, R176: what every well-formed request that is taken answers. -/
theorem exec_answers {c : Instr} {f : Frame} {s : State} (framed : c.frame? = some f) (wf : c.wellFormed = true)
    (takes : Takes s f.kind f.tag f.payload) :
    ∃ a, Answer.Regular f.kind s.popIntake a ∧ exec c s = .next (a.state.replied f.kind f.tag a.code a.body) := by
  cases c <;> cases framed
  case addMeter => exact serve_regular takes fun u => .addMeterAnswer _ u
  case removeMeter => exact serve_regular takes fun u => .removeMeterAnswer _ u
  case replaceMeter => exact serve_regular takes fun u => .replaceAnswer _ u
  case attachMeter => exact serve_regular takes fun u => .attachAnswer _ u
  case meterRead => exact serve_regular takes fun u => .meterReadAnswer _ u
  case reading => exact serve_regular takes fun u => .readingAnswer u
  case readingBatch events => exact serve_regular takes fun u b => .batchAnswer _ u b events
  case clockMark => exact serve_regular takes fun u => .clockMarkAnswer _ u
  case partSet => exact serve_regular takes fun u => .partSetAnswer _ u
  case partStatus => exact serve_regular takes fun _ _ => .okWith _
  case zoneSet => exact serve_regular takes fun u => .zoneSetAnswer _ u
  case forceClose => exact serve_regular takes fun u => .forceCloseAnswer _ u
  case zoneStart => exact serve_regular takes fun u => .zoneStartAnswer _ u
  case zoneStop => exact serve_regular takes fun u => .zoneStopAnswer _ u
  case zoneSurvey => exact serve_regular takes fun u => .zoneSurveyAnswer _ u
  case excludeNight => exact serve_regular takes fun u => .excludeNightAnswer _ u
  case acceptLevel => exact serve_regular takes fun u => .acceptLevelAnswer _ u
  case ackZone => exact serve_regular takes fun u => .ackZoneAnswer _ u
  case resetZone => exact serve_regular takes fun u => .resetZoneAnswer _ u
  case zoneRead => exact serve_regular takes fun u => .zoneReadAnswer _ u
  case zoneProfile => exact serve_regular takes fun u => .zoneProfileAnswer _ u
  case groupSet => exact serve_regular takes fun u => .groupSetAnswer _ u
  case groupRead => exact serve_regular takes fun u => .groupReadAnswer _ u
  case historyRead => exact serve_regular takes fun u => .historyReadAnswer _ u
  case unfreeze => exact serve_regular takes fun u => .unfreezeAnswer _ u
  case reportHold => exact serve_regular takes fun u _ => .reportHoldAnswer _ u
  case reportRelease => exact serve_regular takes fun u _ => .reportReleaseAnswer _ u
  case captureRead => exact serve_regular takes fun _ _ => .okWith _
  case clearCapture => exact serve_regular takes fun _ _ => .okWith _
  case testStart => exact serve_regular takes fun u => .testStartAnswer _ u
  case testCancel => exact serve_regular takes fun u _ => .testCancelAnswer _ u
  case testRead => exact serve_regular takes fun _ _ => .okWith _
  case testClear => exact serve_regular takes fun _ _ => .okWith _
  case noticeFetch => exact serve_regular takes fun _ _ => .okWith _
  case restart => exact serve_regular takes fun u => .restartAnswer _ u
  case unknownKind => exact ⟨_, .refuse .unknownKind, exec_unknownKind (kind_unknown wf) takes⟩

/-- Settles O4: the answer leaves the overrun marker, the buffer and the queue to its reply. -/
theorem repliesEchoTheirRequest : Obligations.RepliesEchoTheirRequest := by
  unfold Obligations.RepliesEchoTheirRequest
  intro c f s framed wf takes
  obtain ⟨a, ⟨inbox, -⟩, answered⟩ := exec_answers framed wf takes
  have pending : a.state.pending = s.pending := congrArg Prod.fst inbox
  have intake : a.state.link.intake = s.link.intake.tail := congrArg (fun i => i.2.1) inbox
  have overrun : a.state.link.overrun = s.link.overrun := congrArg (fun i => i.2.2) inbox
  exact ⟨_, _, answered, rfl, rfl, rfl, overrun ▸ rfl, rfl, intake, pending⟩

/-- Settles O5: a refusal's state is the one it was handed. -/
theorem refusedRequestsChangeNothing : Obligations.RefusedRequestsChangeNothing := by
  unfold Obligations.RefusedRequestsChangeNothing
  intro c f s t r framed wf takes e replied notTaken
  obtain ⟨a, ⟨-, refused⟩, answered⟩ := exec_answers framed wf takes
  rw [answered] at e
  cases e
  cases replied
  obtain ⟨same, body⟩ := refused notTaken
  exact ⟨by rw [same], body⟩

/-! ### ATTN (R180) -/

theorem Link.attn_iff (l : Link) : l.attn = true ↔ l.power ≠ .inReset ∧ (l.notices ≠ [] ∨ l.overflow = true) := by
  simp [Link.attn]

/-- R185: after a reset, with no notice queued and the marker clear, ATTN is deasserted. -/
theorem attn_of_empty {t : State} (notices : t.link.notices = []) (overflow : t.link.overflow = false) : t.attn = false := by
  simp [State.attn, Link.attn, notices, overflow]

/-- R175: bit 1 of a flags byte is the attention flag. -/
theorem flags_attention : ∀ overrun attn : Bool,
    (BitVec.ofNat 8 (overrun.toNat + 2 * attn.toNat)).getLsbD 1 = attn := by decide

/-- Settles O13: every reset but the pin's assertion empties the queue, and the assertion holds the line itself; a reply's flag
by its flags byte. -/
theorem attnFollowsTheQueue : Obligations.AttnFollowsTheQueue := by
  unfold Obligations.AttnFollowsTheQueue
  refine ⟨fun s => s.link.attn_iff, fun s t e => ?_, fun high s t held e => ?_, fun s t waits e => ?_,
    fun c f s t r framed wf takes e replied => ?_⟩
  · have e : Host.Outcome.next (abandonAll s) = .next t := e
    injection e with e
    exact e ▸ rfl
  · have e : Host.Outcome.next (fullReset (Link.reset .starting (rateOf high)) s) = .next t := (if_pos held).symm.trans e
    cases e
    rfl
  · simp only [exec, execRestartTakesEffect] at e
    split at e
    · cases e
      exact attn_of_empty rfl rfl
    · cases e
      exact attn_of_empty rfl rfl
    · next none => exact absurd none waits
  · obtain ⟨a, -, answered⟩ := exec_answers framed wf takes
    rw [answered] at e
    cases e
    cases replied
    exact flags_attention _ _

end Sys2Proof.Machine
end

section
/-! SUPPORT. R176 steps 1 and 2: which payloads no request's fields are read from. -/

namespace Sys2Proof.Machine

/-! ### Optional fields and reading records -/

/-- R186: a presence byte other than 0 and 1 leaves a field undetermined. -/
theorem optionAt_none {p : List Byte} {at' : Nat} (w : Nat) (undefined : 1 < fieldAt p at' 1) : optionAt p at' w = none := by
  unfold optionAt presenceAt
  split
  · omega
  · omega
  · rfl

/-- Section 12.6: the length that a presence byte declares. -/
theorem declaredRecord : ∀ x < 4,
    (if x.testBit 0 then 19 else 14) + (x.testBit 1).toNat = 14 + 5 * (x % 2) + x / 2 := by decide

/-- R18, R186: no record is read where the presence byte is none, or where the bytes fall short of what it declares. -/
theorem parseRecord_none {p : List Byte}
    (bad : p.length < 14 ∨ 3 < fieldAt p 8 1 ∨ p.length < 14 + 5 * (fieldAt p 8 1 % 2) + fieldAt p 8 1 / 2) :
    parseRecord p = none := by
  refine if_neg fun ⟨presence, length⟩ => ?_
  rw [declaredRecord _ (Nat.lt_succ_of_le presence)] at length
  omega

/-- R18: the bytes that a record leaves. -/
theorem parseRecord_rest {p rest : List Byte} {r : ReadingRecord} (parsed : parseRecord p = some (r, rest)) :
    fieldAt p 8 1 ≤ 3 ∧ rest.length + 14 + 5 * (fieldAt p 8 1 % 2) + fieldAt p 8 1 / 2 = p.length := by
  obtain ⟨⟨presence, length⟩, same⟩ := Option.ite_none_right_eq_some.mp parsed
  rw [declaredRecord _ (Nat.lt_succ_of_le presence)] at length same
  have left := congrArg (fun e => e.2.length) (Option.some.inj same)
  dsimp only at left
  rw [List.length_drop] at left
  exact ⟨presence, by omega⟩

theorem parseReading_none {p : List Byte} (bad : p.length < 14 ∨ 3 < fieldAt p 8 1 ∨
    p.length ≠ 14 + 5 * (fieldAt p 8 1 % 2) + fieldAt p 8 1 / 2) : parseReading p = none := by
  unfold parseReading
  split
  · next r parsed =>
    obtain ⟨presence, length⟩ := parseRecord_rest parsed
    rw [List.length_nil] at length
    omega
  · rfl

/-- R20: records that run past or fall short of a batch's bytes. -/
theorem parseRecords_none {n : Nat} {good : List ReadingRecord} {rest : List Byte} (fits : ∀ r ∈ good, r.Fits)
    (bad : good.length < n ∧ (rest.length < 14 ∨ 3 < fieldAt rest 8 1 ∨
        rest.length < 14 + 5 * (fieldAt rest 8 1 % 2) + fieldAt rest 8 1 / 2) ∨
      good.length = n ∧ rest ≠ []) : parseRecords n (good.flatMap putRecord ++ rest) = none := by
  induction good generalizing n with
  | nil =>
    rcases bad with ⟨more, cut⟩ | ⟨rfl, more⟩
    · obtain ⟨n, rfl⟩ := Nat.exists_eq_succ_of_ne_zero (Nat.ne_of_gt more)
      simp [parseRecords, parseRecord_none cut]
    · exact if_neg (by simpa using more)
  | cons r good ih =>
    obtain ⟨first, others⟩ := List.forall_mem_cons.mp fits
    obtain ⟨n, rfl⟩ : ∃ k, n = k + 1 := ⟨n - 1, by rw [List.length_cons] at bad; omega⟩
    rw [List.flatMap_cons, List.append_assoc, parseRecords, parseRecord_put first]
    dsimp only
    rw [ih others (by simpa using bad)]
    rfl

/-! ### The requests whose length their own fields decide -/

section
variable {p : List Byte}

theorem parseReplace_unmet (unmet : LengthUnmet 0x03 p) : parseReplace p = none := by
  obtain ⟨length, newSerial | reverse | sequence⟩ := unmet
  · rw [parseReplace, if_pos length, optionAt_none _ newSerial]
  · rw [parseReplace, if_pos length, optionAt_none _ reverse]
    cases optionAt p 4 4 <;> rfl
  · rw [parseReplace, if_pos length, optionAt_none _ sequence]
    cases optionAt p 4 4 <;> cases optionAt p 27 5 <;> rfl

theorem parseReading_unmet (unmet : LengthUnmet 0x10 p) : parseReading p = none := parseReading_none (.inr unmet.2)

theorem parsePartSet_unmet (unmet : LengthUnmet 0x19 p) : parsePartSet p = none := by
  obtain ⟨fixed, low, high, length⟩ := unmet
  have count : partCountOk (fieldAt p 0 1) = true := by simp [partCountOk, low, high]
  rw [parsePartSet, if_neg (by omega), if_pos count, if_neg length]

theorem parseZoneSet_unmet (unmet : LengthUnmet 0x20 p) : parseZoneSet p = none := by
  obtain ⟨fixed, low, high, length⟩ := unmet
  have count : zoneEntryCountOk (fieldAt p 1 1) = true := by simp [zoneEntryCountOk, low, high]
  rw [parseZoneSet, if_neg (by omega), if_pos count, if_neg length]

theorem parseZoneStart_unmet (unmet : LengthUnmet 0x21 p) : parseZoneStart p = none := by
  obtain ⟨length, seed⟩ := unmet
  rw [parseZoneStart, if_pos length, optionAt_none _ seed]
  rfl

theorem parseGroupSet_unmet (unmet : LengthUnmet 0x30 p) : parseGroupSet p = none := by
  obtain ⟨fixed, high, length⟩ := unmet
  have count : groupCountOk (fieldAt p 5 1) = true := by simp [groupCountOk, high]
  rw [parseGroupSet, if_neg (by omega), if_pos count, if_neg length]

end

/-! ### Fixed lengths and fixed parts -/

/-- R176 step 2: the payload has not the length of its kind, or is shorter than its kind's fixed part, `n` bytes. -/
abbrev WrongLength (kind n : Nat) (p : List Byte) : Prop :=
  fixedLength kind = some n ∧ p.length ≠ n ∨ fixedPart kind = some n ∧ p.length < n

theorem WrongLength.ne {kind n m : Nat} {p : List Byte} (h : WrongLength kind n p) (fixed : fixedLength kind = some m)
    (varies : fixedPart kind = none) : p.length ≠ m := by
  rcases h with ⟨own, length⟩ | ⟨own, -⟩
  · exact Option.some.inj (own.symm.trans fixed) ▸ length
  · cases own.symm.trans varies

theorem WrongLength.lt {kind n m : Nat} {p : List Byte} (h : WrongLength kind n p) (fixed : fixedLength kind = none)
    (varies : fixedPart kind = some m) : p.length < m := by
  rcases h with ⟨own, -⟩ | ⟨own, length⟩
  · cases own.symm.trans fixed
  · exact Option.some.inj (own.symm.trans varies) ▸ length

theorem mem_catalogue_of_lookup {lengths : List (Nat × Nat)} (known : ∀ e ∈ lengths, e.1 ∈ catalogue) {kind n : Nat}
    (found : lengths.lookup kind = some n) : kind ∈ catalogue := by
  by_contra unknown
  have none : lengths.lookup kind = none := List.lookup_eq_none_iff.mpr fun e member =>
    bne_iff_ne.mpr fun same => unknown (same ▸ known e member)
  cases none.symm.trans found

/-- Section 12.5: the kinds that have a length are those of the messages. -/
theorem WrongLength.known {kind n : Nat} {p : List Byte} (h : WrongLength kind n p) : kind ∈ catalogue := by
  rcases h with ⟨own, -⟩ | ⟨own, -⟩
  · exact mem_catalogue_of_lookup (by decide) own
  · exact mem_catalogue_of_lookup (by decide) own

theorem lengthUnmet_known {kind : Nat} {p : List Byte} (h : LengthUnmet kind p) : kind ∈ catalogue := by
  unfold LengthUnmet at h
  split at h
  case h_7 => exact h.elim
  all_goals decide

/-! ### BAD_LENGTH -/

/-- R176 step 2: a payload that gives no fields is refused before the owner sees it. -/
theorem serve_malformed {α : Type} {kind tag : Byte} {payload : List Byte} {parse : List Byte → Option α}
    {owner : α → State → Answer} {s : State} (takes : Takes s kind tag payload) (unparsed : parse payload = none) :
    serve kind tag payload (fun p s => withFields (parse p) s fun r => owner r s) s =
      .next (s.popIntake.replied kind tag .badLength []) := by
  rw [serve_taken _ takes, unparsed]
  rfl

theorem exec_wrongLength {c : Instr} {f : Frame} {n : Nat} {s : State} (framed : c.frame? = some f)
    (wf : c.wellFormed = true) (wrong : WrongLength f.kind.toNat n f.payload) (takes : Takes s f.kind f.tag f.payload) :
    exec c s = .next (s.popIntake.replied f.kind f.tag .badLength []) := by
  cases c <;> cases framed
  case addMeter | removeMeter | replaceMeter | attachMeter | meterRead | clockMark | partStatus | forceClose | zoneStart |
      zoneStop | zoneSurvey | excludeNight | acceptLevel | ackZone | resetZone | zoneRead | zoneProfile | groupRead |
      historyRead | unfreeze | reportHold | reportRelease | captureRead | clearCapture | testStart | testCancel | testRead |
      testClear | noticeFetch | restart =>
    exact serve_malformed takes (if_neg (wrong.ne rfl rfl))
  case readingBatch | partSet | zoneSet | groupSet => exact serve_malformed takes (if_pos (wrong.lt rfl rfl))
  case reading => exact serve_malformed takes (parseReading_none (.inl (wrong.lt rfl rfl)))
  case unknownKind => exact absurd wrong.known (kind_unknown wf)

theorem exec_lengthUnmet {c : Instr} {f : Frame} {s : State} (framed : c.frame? = some f) (wf : c.wellFormed = true)
    (unmet : LengthUnmet f.kind.toNat f.payload) (takes : Takes s f.kind f.tag f.payload) :
    exec c s = .next (s.popIntake.replied f.kind f.tag .badLength []) := by
  cases c <;> cases framed
  case replaceMeter => exact serve_malformed takes (parseReplace_unmet unmet)
  case reading => exact serve_malformed takes (parseReading_unmet unmet)
  case partSet => exact serve_malformed takes (parsePartSet_unmet unmet)
  case zoneSet => exact serve_malformed takes (parseZoneSet_unmet unmet)
  case zoneStart => exact serve_malformed takes (parseZoneStart_unmet unmet)
  case groupSet => exact serve_malformed takes (parseGroupSet_unmet unmet)
  case unknownKind => exact absurd (lengthUnmet_known unmet) (kind_unknown wf)
  all_goals exact False.elim unmet

/-- Settles O6: each malformed payload gives its parser no fields. -/
theorem malformedRequestsAreRefused : Obligations.MalformedRequestsAreRefused := by
  unfold Obligations.MalformedRequestsAreRefused
  refine ⟨fun kind tag p s unknown takes => exec_unknownKind unknown takes,
    fun c f n s framed wf wrong takes => exec_wrongLength framed wf wrong takes,
    fun c f s framed wf unmet takes => exec_lengthUnmet framed wf unmet takes,
    fun tag n good rest events s low high fits bad takes => serve_malformed takes ?_⟩
  rw [List.append_assoc]
  have count : fieldAt (putNat 1 n ++ (good.flatMap putRecord ++ rest)) 0 1 = n := by simp (disch := omega) [fieldAt]
  have inRange : batchCountOk n = true := by simp [batchCountOk, low, high]
  rw [parseBatch, if_neg (by simp), count, if_pos inRange, drop_putNat_append, parseRecords_none fits bad]
  rfl

end Sys2Proof.Machine
end

section
/-! SUPPORT. R177, R179: what a raise does to the notice queue, and what NOTICE_FETCH delivers. -/

namespace Sys2Proof.Machine

/-! ### A raise (R177) -/

section
variable {s : State} {n : Notice}

/-- R177: a notice whose key is new joins the tail of a queue of fewer than 96. -/
theorem raise_joins (new : ∀ m ∈ s.link.notices, m.code ≠ n.code ∨ m.subject ≠ n.subject) (free : s.link.notices.length < 96) :
    (s.raise n).link.notices = s.link.notices ++ [n] ∧ (s.raise n).link.overflow = s.link.overflow := by
  rcases raise_cases s n with ⟨⟨m, queued, key⟩, -, -⟩ | ⟨-, -, mark, queue⟩ | ⟨-, full, -, -⟩
  · obtain ⟨code, subject⟩ := sameKey_iff.mp key
    exact absurd (new m queued) (not_or.mpr ⟨not_not.mpr code.symm, not_not.mpr subject.symm⟩)
  · exact ⟨queue, mark⟩
  · omega

/-- R177: a notice whose key is new to a full queue is dropped. -/
theorem raise_drops (new : ∀ m ∈ s.link.notices, m.code ≠ n.code ∨ m.subject ≠ n.subject) (full : 96 ≤ s.link.notices.length) :
    (s.raise n).link.notices = s.link.notices ∧ (s.raise n).link.overflow = true := by
  rcases raise_cases s n with ⟨⟨m, queued, key⟩, -, -⟩ | ⟨-, free, -, -⟩ | ⟨-, -, mark, queue⟩
  · obtain ⟨code, subject⟩ := sameKey_iff.mp key
    exact absurd (new m queued) (not_or.mpr ⟨not_not.mpr code.symm, not_not.mpr subject.symm⟩)
  · omega
  · exact ⟨queue, mark⟩

/-- R177: a notice whose key is queued is taken up in place. -/
theorem raise_updates (queued : ∃ m ∈ s.link.notices, m.code = n.code ∧ m.subject = n.subject) :
    (s.raise n).link.notices = s.link.notices.map (fun old => if sameKey n old then coalesce old n else old) ∧
      (s.raise n).link.overflow = s.link.overflow := by
  obtain ⟨m, member, code, subject⟩ := queued
  have key : sameKey n m = true := sameKey_iff.mpr ⟨code.symm, subject.symm⟩
  rcases raise_cases s n with ⟨-, mark, queue⟩ | ⟨new, -⟩ | ⟨new, -⟩
  · exact ⟨queue, mark⟩
  · exact absurd (new m member) (by simp [key])
  · exact absurd (new m member) (by simp [key])

end

/-- R177: but for ZONE_STATE and CAUSE_HELD, the new values replace the old ones. -/
theorem coalesce_eq_new {new : Notice} (state : new.code ≠ 2) (cause : new.code ≠ 3) (old : Notice) :
    coalesce old new = new := by
  unfold coalesce
  split
  · exact absurd rfl state
  · exact absurd rfl cause
  · rfl

/-- Settles O11: a new key by the room left, a queued one notice by notice. -/
theorem raisedNoticesCoalesce : Obligations.RaisedNoticesCoalesce := by
  unfold Obligations.RaisedNoticesCoalesce
  intro s n
  dsimp only
  refine ⟨rfl, raise_joins, raise_drops, fun queued => ?_⟩
  obtain ⟨queue, mark⟩ := raise_updates queued
  have after {i : Nat} {m : Notice} (found : s.link.notices[i]? = some m) :
      (s.raise n).link.notices[i]? = some (if sameKey n m then coalesce m n else m) := by
    rw [queue, List.getElem?_map, found, Option.map_some]
  have taken {i : Nat} {m : Notice} (found : s.link.notices[i]? = some m) (code : m.code = n.code)
      (subject : m.subject = n.subject) : (s.raise n).link.notices[i]? = some (coalesce m n) := by
    rw [after found, if_pos (sameKey_iff.mpr ⟨code.symm, subject.symm⟩)]
  refine ⟨by rw [queue, List.length_map], mark, fun i m found differs => ?_, fun i z before mid after last found raised => ?_,
    fun i z a b found raised => ?_, fun i m found code subject state cause => ?_⟩
  · have other : sameKey n m = false := sameKey_false_iff.mpr (differs.imp Ne.symm Ne.symm)
    rw [after found, other]
    rfl
  · rw [taken found (raised ▸ rfl) (raised ▸ rfl), raised]
    rfl
  · rw [taken found (raised ▸ rfl) (raised ▸ rfl), raised]
    rfl
  · rw [taken found code subject, coalesce_eq_new state cause]

/-! ### Notice records (section 12.6) -/

theorem Notice.code_lt (n : Notice) : n.code < 256 := by cases n <;> simp [Notice.code]

theorem Notice.content_length (n : Notice) : n.content.length ≤ 6 := by cases n <;> simp [Notice.content]

/-- Section 12.6: a notice record is 11 bytes, its kind and its subject first. -/
theorem putNotice_head {n : Notice} (subject : n.subject < 2 ^ 32) :
    (putNotice n).length = 11 ∧ fieldAt (putNotice n) 0 1 = n.code ∧ fieldAt (putNotice n) 1 4 = n.subject := by
  have code := n.code_lt
  have content := n.content_length
  refine ⟨?_, ?_, ?_⟩
  · simp [putNotice]
    omega
  · simp (disch := omega) [putNotice, fieldAt]
  · simp (disch := omega) [putNotice, fieldAt]

/-- Section 12.6: the bytes after the subject are those of the content, then zeros. -/
theorem putNotice_slice (n : Notice) {at' : Nat} (w : Nat) (after : 5 ≤ at') :
    slice (putNotice n) at' w = slice (n.content ++ putNat (6 - n.content.length) 0) (at' - 5) w := by
  rw [putNotice, List.append_assoc, List.append_assoc, slice_skip_putNat 1 _ _ _ (by omega),
    slice_skip_putNat 4 _ _ _ (by omega), Nat.sub_sub]

/-- Section 12.6: a monitor state and a validity bit share a byte. -/
theorem stateAndValidity_lt (m : MonitorState) (valid : Bool) : m.code + 128 * valid.toNat < 256 := by
  cases m <;> cases valid <;> decide

theorem flagBit_eq (k : Nat) (b : Bool) : flagBit k b = 2 ^ k * b.toNat := Nat.mul_comm _ _

theorem groupFlags_lt (a b c d : Bool) : a.toNat + 2 * b.toNat + 4 * c.toNat + 8 * d.toNat < 256 := by
  have := flagSum_lt a b c d false
  rw [flagSum] at this
  omega

/-- Settles O12: the fetch by its owner's answer, each record by its row of fields. -/
theorem noticeFetchDelivers : Obligations.NoticeFetchDelivers := by
  unfold Obligations.NoticeFetchDelivers
  refine ⟨fun tag s takes => ?_, fun n fits => ?_⟩
  · exact serve_answer (owner := fun _ => noticeFetchAnswer) takes parseEmpty_nil rfl
  · dsimp only
    have head := putNotice_head fits.1
    cases n with
    | nightClosed z label cause after valid =>
      have small := stateAndValidity_lt after valid
      have label : FitsSigned label := fits.2
      refine ⟨head, ?_, fun c closed => ?_, ?_⟩
      · simp (disch := omega) [putNotice_slice, Notice.content, getInt_putInt_four label]
      · cases closed
        have := c.code_lt
        simp (disch := omega) [fieldAt, putNotice_slice, Notice.content, closeCauseCode]
      · simp (disch := omega) [fieldAt, putNotice_slice, Notice.content, flagBit_eq]
    | zoneState z before after =>
      have := before.code_lt
      have := after.code_lt
      refine ⟨head, ?_, ?_, ?_⟩
      · simp (disch := omega) [fieldAt, putNotice_slice, Notice.content]
      · simp (disch := omega) [fieldAt, putNotice_slice, Notice.content]
      · simp (disch := omega) [putNotice_slice, Notice.content]
        rfl
    | causeHeld z causes =>
      have := causes.code_lt
      refine ⟨head, ?_, ?_⟩
      · simp (disch := omega) [fieldAt, putNotice_slice, Notice.content]
      · simp (disch := omega) [putNotice_slice, Notice.content]
        rfl
    | groupChange g leak integ leakEnable integEnable =>
      have := groupFlags_lt leak integ leakEnable integEnable
      refine ⟨head, ?_, ?_⟩
      · simp (disch := omega) [fieldAt, putNotice_slice, Notice.content, flagBit_eq]
      · simp (disch := omega) [putNotice_slice, Notice.content]
        rfl
    | meterStale serial ch time =>
      obtain ⟨-, channel, base⟩ := fits
      refine ⟨head, ?_, ?_⟩
      · simp (disch := omega) [fieldAt, putNotice_slice, Notice.content]
      · simp (disch := omega) [fieldAt, putNotice_slice, Notice.content]
    | testDone test outcome =>
      have := outcome.code_lt
      have small : test < 256 := fits.2
      refine ⟨head, ?_, ?_, ?_⟩
      · simp (disch := omega) [fieldAt, putNotice_slice, Notice.content]
      · simp (disch := omega) [fieldAt, putNotice_slice, Notice.content]
      · simp (disch := omega) [putNotice_slice, Notice.content]
        rfl

end Sys2Proof.Machine
end

section
/-! SUPPORT. PART_SET (R181): the checks of its entries, and what they write. -/

namespace Sys2Proof.Machine

/-! ### The checks -/

/-- R181: an entry that passes names a part setting. -/
theorem PartEntryOk.named {e : Nat × Int} (ok : PartEntryOk e) : 1 ≤ e.1 ∧ e.1 ≤ 4 := by
  unfold PartEntryOk at ok
  omega

theorem PartEntryOk.fits {e : Nat × Int} (ok : PartEntryOk e) : EntryFits e := by
  unfold PartEntryOk at ok
  unfold EntryFits
  omega

section
variable {earlier : List Nat} {e : Nat × Int}

theorem partEntriesFault_cons (rest : List (Nat × Int)) (i : Nat) (ok : PartEntryOk e) (fresh : e.1 ∉ earlier) :
    partEntriesFault earlier i (e :: rest) = partEntriesFault (e.1 :: earlier) (i + 1) rest := by
  obtain ⟨least, greatest⟩ := ok.named
  obtain ⟨id, v⟩ := e
  have inRange := (partSettingInRange_iff least greatest v).mpr ok
  dsimp only at least greatest inRange fresh
  simp [partEntriesFault, least, greatest, inRange, fresh]

/-- R181: an identifier that names no part setting or repeats. -/
theorem partEntriesFault_identifier (bad : e.1 < 1 ∨ 4 < e.1 ∨ e.1 ∈ earlier) (i : Nat) (rest : List (Nat × Int)) :
    partEntriesFault earlier i (e :: rest) = some (2 * i) := by
  obtain ⟨id, v⟩ := e
  refine if_pos ?_
  dsimp only at bad
  rcases bad with low | high | repeats
  · simp [Nat.lt_one_iff.mp low]
  · simp [high]
  · simp [repeats]

/-- R181: a value out of its part setting's range. -/
theorem partEntriesFault_value (least : 1 ≤ e.1) (greatest : e.1 ≤ 4) (fresh : e.1 ∉ earlier) (bad : ¬ PartEntryOk e) (i : Nat)
    (rest : List (Nat × Int)) : partEntriesFault earlier i (e :: rest) = some (2 * i + 1) := by
  obtain ⟨id, v⟩ := e
  have outOfRange := mt (partSettingInRange_iff least greatest v).mp bad
  dsimp only at least greatest fresh outOfRange
  simp [partEntriesFault, least, greatest, fresh, outOfRange]

end

/-- R181: entries that pass are passed over, and their identifiers taken. -/
theorem partEntriesFault_append {good : List (Nat × Int)} (apart : (good.map (·.1)).Nodup) (ok : ∀ g ∈ good, PartEntryOk g)
    {earlier : List Nat} (away : ∀ g ∈ good, g.1 ∉ earlier) (i : Nat) (rest : List (Nat × Int)) :
    partEntriesFault earlier i (good ++ rest) =
      partEntriesFault ((good.map (·.1)).reverse ++ earlier) (i + good.length) rest := by
  induction good generalizing earlier i with
  | nil => rfl
  | cons g good ih =>
    obtain ⟨fresh, apart⟩ := List.nodup_cons.mp apart
    obtain ⟨entryOk, ok⟩ := List.forall_mem_cons.mp ok
    obtain ⟨awayHere, away⟩ := List.forall_mem_cons.mp away
    have later : ∀ x ∈ good, x.1 ∉ g.1 :: earlier := fun x member =>
      List.not_mem_cons_of_ne_of_not_mem (ne_of_mem_of_not_mem (List.mem_map_of_mem (f := (·.1)) member) fresh) (away x member)
    rw [List.cons_append, partEntriesFault_cons _ i entryOk awayHere, ih apart ok later]
    simp [Nat.add_assoc, Nat.add_comm 1]

theorem partEntriesFault_passes {es : List (Nat × Int)} (apart : (es.map (·.1)).Nodup) (ok : ∀ e ∈ es, PartEntryOk e) :
    partEntriesFault [] 1 es = none := by
  rw [← List.append_nil es, partEntriesFault_append apart ok fun _ _ => List.not_mem_nil]
  rfl

/-! ### What the entries write -/

/-- R181: a part setting by its identifier. -/
def PartSettings.value (c : PartSettings) (id : Nat) : Int :=
  match id with
  | 1 => c.gapLimit
  | 2 => c.skew
  | 3 => c.staleLimit
  | 4 => c.offset
  | _ => 0

/-- A write beside the setting that is read. -/
theorem PartSettings.value_write_ne (c : PartSettings) {e : Nat × Int} {id : Nat} (other : id ≠ e.1) :
    (c.write e).value id = c.value id := by
  obtain ⟨id', v⟩ := e
  unfold PartSettings.write
  split <;> unfold PartSettings.value <;> split <;> simp_all

theorem PartSettings.value_write_self (c : PartSettings) {e : Nat × Int} (ok : PartEntryOk e) : (c.write e).value e.1 = e.2 := by
  obtain ⟨id, v⟩ := e
  rcases ok with ⟨named, low, -⟩ | ⟨named, low, -⟩ | ⟨named, low, -⟩ | ⟨named, -⟩ <;> cases named
  · exact Int.toNat_of_nonneg (le_trans (by decide) low)
  · exact Int.toNat_of_nonneg low
  · exact Int.toNat_of_nonneg (le_trans (by decide) low)
  · rfl

/-- R181: every entry's value stands in its setting, and every other setting as it was. -/
theorem PartSettings.value_foldl_write {es : List (Nat × Int)} (apart : (es.map (·.1)).Nodup) (ok : ∀ e ∈ es, PartEntryOk e)
    (c : PartSettings) (id : Nat) : (es.foldl PartSettings.write c).value id = (es.lookup id).getD (c.value id) := by
  induction es generalizing c with
  | nil => rfl
  | cons e rest ih =>
    obtain ⟨fresh, apart⟩ := List.nodup_cons.mp apart
    obtain ⟨entryOk, ok⟩ := List.forall_mem_cons.mp ok
    rw [List.foldl_cons, ih apart ok, lookup_cons_entry]
    by_cases here : id = e.1
    · rw [here, (lookup_eq_none_iff_notMem rest e.1).mpr fresh, if_pos rfl]
      exact c.value_write_self entryOk
    · rw [if_neg here, c.value_write_ne here]

section
variable {es : List (Nat × Int)} (apart : (es.map (·.1)).Nodup) (ok : ∀ e ∈ es, PartEntryOk e) (c : PartSettings) (id : Nat)
include apart ok

theorem PartSettings.value_written : ∀ v, (id, v) ∈ es → (es.foldl PartSettings.write c).value id = v := fun v member => by
  rw [PartSettings.value_foldl_write apart ok, lookup_of_mem apart member, Option.getD_some]

theorem PartSettings.value_kept (absent : ∀ v, (id, v) ∉ es) : (es.foldl PartSettings.write c).value id = c.value id := by
  have unlisted : es.lookup id = none := (lookup_eq_none_iff_notMem es id).mpr fun member => by
    obtain ⟨⟨_, v⟩, listed, rfl⟩ := List.mem_map.mp member
    exact absent v listed
  rw [PartSettings.value_foldl_write apart ok, unlisted, Option.getD_none]

end

/-! ### The answers -/

theorem partSetAnswer_writes {es : List (Nat × Int)} (low : 1 ≤ es.length) (high : es.length ≤ 4)
    (apart : (es.map (·.1)).Nodup) (ok : ∀ e ∈ es, PartEntryOk e) (s : State) :
    partSetAnswer ⟨es.length, es⟩ s = okWith { s with settings := es.foldl PartSettings.write s.settings }
      (putPartSettings (es.foldl PartSettings.write s.settings)) := by
  have count : partCountOk es.length = true := by simp [partCountOk, low, high]
  simp [partSetAnswer, count, partEntriesFault_passes apart ok]

theorem partSetAnswer_fault {es : List (Nat × Int)} (low : 1 ≤ es.length) (high : es.length ≤ 4) {field : Nat}
    (fault : partEntriesFault [] 1 es = some field) (s : State) : partSetAnswer ⟨es.length, es⟩ s = badField s field := by
  have count : partCountOk es.length = true := by simp [partCountOk, low, high]
  simp [partSetAnswer, count, fault]

/-- R176, R181: a count out of its range is read alone, and refused as field 1. -/
theorem partSet_count {n : Nat} (small : n < 256) (bad : n = 0 ∨ 4 < n) (p : List Byte) (s : State) :
    parsePartSet (putNat 1 n ++ p) = some ⟨n, []⟩ ∧ partSetAnswer ⟨n, []⟩ s = badField s 1 := by
  have refused : partCountOk n = false := by
    simp only [partCountOk, Bool.and_eq_false_iff, decide_eq_false_iff_not]
    omega
  have count : fieldAt (putNat 1 n ++ p) 0 1 = n := by simp (disch := omega) [fieldAt]
  constructor
  · simp [parsePartSet, count, refused]
  · simp [partSetAnswer, refused]

/-- Settles O15: the entries written one after another; a refusal by the first entry that fails. -/
theorem partSetWritesSettings : Obligations.PartSetWritesSettings := by
  unfold Obligations.PartSetWritesSettings
  refine ⟨fun tag es s low high apart ok takes => ?_, fun tag n p s small bad takes => ?_,
    fun tag good rest e s short apart ok fits takes => ?_⟩
  · have parsed := parsePartSet_put low high fun e member => (ok e member).fits
    have written := PartSettings.value_written apart ok s.settings
    have kept := PartSettings.value_kept apart ok s.settings
    exact ⟨_, serve_answer (owner := partSetAnswer) takes parsed (partSetAnswer_writes low high apart ok s.popIntake),
      written 1, fun absent => Int.ofNat.inj (kept 1 absent), written 2, fun absent => Int.ofNat.inj (kept 2 absent),
      written 3, fun absent => Int.ofNat.inj (kept 3 absent), written 4, kept 4⟩
  · obtain ⟨parsed, answer⟩ := partSet_count small bad p s.popIntake
    exact serve_answer (owner := partSetAnswer) takes parsed answer
  · have low : 1 ≤ (good ++ e :: rest).length := by simp; omega
    have parsed : parsePartSet (putPartSet (good ++ e :: rest)) = some ⟨_, good ++ e :: rest⟩ :=
      parsePartSet_put low short fun g member =>
        (List.mem_append.mp member).elim (fun passed => (ok g passed).fits) (fits g)
    have passed := partEntriesFault_append apart ok (fun _ _ => List.not_mem_nil) 1 (e :: rest)
    rw [List.append_nil, Nat.add_comm 1] at passed
    have names {field : Nat} (fault : partEntriesFault (good.map (·.1)).reverse (good.length + 1) (e :: rest) = some field) :=
      serve_answer (owner := partSetAnswer) takes parsed
        (partSetAnswer_fault low short (passed.trans fault) s.popIntake)
    refine ⟨fun bad => names (partEntriesFault_identifier ?_ _ rest), fun least greatest fresh bad =>
      names (partEntriesFault_value least greatest ?_ bad _ rest)⟩
    · rwa [List.mem_reverse]
    · rwa [List.mem_reverse]

end Sys2Proof.Machine
end

section
/-! SUPPORT. RESTART (R183): its answer, and what its two levels leave. -/

namespace Sys2Proof.Machine

theorem restartAnswer_taken {level : Nat} (valid : level = 0 ∨ level = 1) (s : State) :
    restartAnswer level s =
      okWith { s with link := { s.link with restart := some (if level = 0 then .runtime else .full) } } (putOptNat 4 s.clock) :=
  if_neg (by omega)

theorem restartAnswer_invalid {level : Nat} (invalid : ¬ (level = 0 ∨ level = 1)) (s : State) :
    restartAnswer level s = badField s 1 := if_pos (by omega)

/-! ### What RUNTIME leaves (R17, R56, R74, R155) -/

theorem runtimeReset_zone {s : State} (zones : Table.Rising s.zones) (z : Nat) :
    Table.read Zone.reset (Table.mapListed Zone.reset Zone.runtimeReset s.zones) z = (s.zone z).runtimeReset := by
  rw [Table.read_mapListed zones, State.zone, Table.read]
  cases Table.find? s.zones z <;> rfl

theorem runtimeReset_group {s : State} (groups : Table.Rising s.groups) (g : Nat) :
    Table.read Group.reset (Table.mapListed Group.reset Group.runtimeReset s.groups) g = (s.group g).runtimeReset := by
  rw [Table.read_mapListed groups, State.group, Table.read]
  cases Table.find? s.groups g <;> rfl

theorem exec_restartTakesEffect {s : State} {level : RestartLevel} (waits : s.link.restart = some level) :
    exec .restartTakesEffect s = .next (match level with
      | .runtime => runtimeReset s.link.restarted s
      | .full => fullReset s.link.restarted s) := by
  simp only [exec, execRestartTakesEffect, waits]
  cases level <;> rfl

/-- Settles O17: RESTART by its answer; the tables after RUNTIME, read back record by record. -/
theorem restartIsAnsweredThenTakesEffect : Obligations.RestartIsAnsweredThenTakesEffect := by
  unfold Obligations.RestartIsAnsweredThenTakesEffect
  refine ⟨fun tag level s small takes => ?_, fun s full => ?_, fun s runtime tables => ?_⟩
  · have answers {a : Answer} (h : restartAnswer level s.popIntake = a) :=
      serve_answer (owner := restartAnswer) takes (parseNumber_putNat small) h
    split
    · next valid => exact answers (restartAnswer_taken valid s.popIntake)
    · next invalid => exact answers (restartAnswer_invalid invalid s.popIntake)
  · exact exec_restartTakesEffect full
  · obtain ⟨-, -, ⟨zones, -⟩, groups, -⟩ := tables
    exact ⟨_, _, _, exec_restartTakesEffect runtime, fun ch => Table.find?_map s.meters Meter.runtimeReset ch,
      runtimeReset_zone zones, runtimeReset_group groups⟩

end Sys2Proof.Machine
end

section
/-! SUPPORT. One step: the command at the front of the queue, or idle (log 1). -/

namespace Sys2Proof.Machine

/-- The command leaves the queue before it runs. -/
theorem step_front (c : Instr) (rest : List Instr) (s : State) :
    step { s with pending := c :: rest } = exec c { s with pending := rest } := rfl

theorem step_idle {s : State} (empty : s.pending = []) : step s = .next s := by
  simp only [step, empty]

/-- Settles O1, by the two forms of the queue. -/
theorem stepRunsTheFrontCommand : Obligations.StepRunsTheFrontCommand :=
  ⟨step_front, fun _ => step_idle⟩

end Sys2Proof.Machine
end
